-- ==== Sys2Proof/Word.lean ====
section
/-! DEFINITION. The word and the register index of the VM2024 core (00_scope R5, R6, R11). -/

namespace Sys2Proof

/-- A 32-bit word: an instruction word, an integer cell, a general register or the program counter
(00_scope R6). Its signed reading is `BitVec.toInt` (`signed(w)` of R11). -/
abbrev Word := BitVec 32

/-- A register index: a 4-bit field names one of the 16 registers and no other (10_state R20, R22). -/
abbrev RegIdx := BitVec 4

end Sys2Proof
end

