-- ==== Sys2Proof/Machine/Arith.lean ====
section
/-! DEFINITION. Integer arithmetic on 32-bit two's-complement words: computed exactly on integers, narrowed at the
end (42_alu R119 to R121). -/

namespace Sys2Proof.Machine

/-- `wrap32(n)`: the word whose signed reading is `n` modulo 2^32 (00_scope R11). -/
def wrap32 (n : Int) : Word := BitVec.ofInt 32 n

/-- `wrap32(a + b)` (42_alu R111, R120). -/
def addWord (a b : Word) : Word := wrap32 (a.toInt + b.toInt)

/-- `wrap32(a - b)` (42_alu R112, R120). -/
def subWord (a b : Word) : Word := wrap32 (a.toInt - b.toInt)

/-- `wrap32(a * b)` (42_alu R113, R120). -/
def mulWord (a b : Word) : Word := wrap32 (a.toInt * b.toInt)

/-- `tdiv(a, b)` for `b != 0`: the quotient rounded toward zero, wrapped (42_alu R121). -/
def tdiv (a b : Word) : Word :=
  wrap32 (a.toInt.sign * b.toInt.sign * ((a.toInt.natAbs / b.toInt.natAbs : Nat) : Int))

end Sys2Proof.Machine
end

