-- ==== Sys2Proof/Machine/Flags.lean ====
section
/-! DEFINITION. Conditions. The machine has no flags and no condition codes (10_state R30): a comparison writes the
integer 0 or 1 into a general register, and a branch tests general registers directly. These are the tests. -/

namespace Sys2Proof.Machine

/-- The integer 1 or 0 that a comparison writes (42_alu R123). -/
def boolWord (b : Bool) : Word := if b then 1#32 else 0#32

/-- Equality of two register values (42_alu R115, 43_control R133). -/
def valuesEqual (a b : Word) : Bool := a == b

/-- Either value is literally 1 (42_alu R116). -/
def eitherIsOne (a b : Word) : Bool := a == 1#32 || b == 1#32

/-- Signed less-than (42_alu R117 to R119). -/
def signedLess (a b : Word) : Bool := decide (a.toInt < b.toInt)

/-- The value is 0 (43_control R135). -/
def isZero (a : Word) : Bool := a == 0#32

/-- The value is greater than 0 as a signed integer (43_control R137). -/
def isPositive (a : Word) : Bool := decide (0 < a.toInt)

/-- The value is less than 0 as a signed integer (43_control R138). -/
def isNegative (a : Word) : Bool := decide (a.toInt < 0)

end Sys2Proof.Machine
end

