-- ==== Sys2Proof/Syntax.lean ====
section
/-! DEFINITION. The instructions of the VM2024 core: one constructor for each of the 111 rows of the opcode
table (30_encoding R66, R68, R69), named by mnemonic and Type. A constructor carries every operand field its
Type supplies, the ignored ones too, because ignored fields are still decoded (R70). -/

namespace Sys2Proof

/-- The members of the Operand List that a Type may or may not supply (40_cycle R84). -/
structure Operands where
  /-- bits 23:20 of Types 0, 1 and 3 -/
  reg1 : Option RegIdx
  /-- bits 19:16 of Types 0, 1 and 3 -/
  reg2 : Option RegIdx
  /-- bits 15:12 of Type 0 -/
  reg3 : Option RegIdx
  /-- the address field, read as a natural number (30_encoding R64) -/
  address : Option Nat
  deriving DecidableEq, Repr

/-- What Type 0 supplies (30_encoding R62). -/
def Operands.type0 (reg1 reg2 reg3 : RegIdx) (address : BitVec 4) : Operands :=
  ⟨some reg1, some reg2, some reg3, some address.toNat⟩

/-- What Types 1 and 3 supply (30_encoding R62). -/
def Operands.type13 (reg1 reg2 : RegIdx) (address : BitVec 16) : Operands :=
  ⟨some reg1, some reg2, none, some address.toNat⟩

/-- What Type 2 supplies (30_encoding R62). -/
def Operands.type2 (address : BitVec 24) : Operands :=
  ⟨none, none, none, some address.toNat⟩

/-- The record `D` that decode produces (40_cycle R84). -/
structure OperandList where
  type : BitVec 2
  opcode : BitVec 6
  operands : Operands
  deriving DecidableEq, Repr

/-- The instruction set: 27 opcodes in each of the four Types, and the undefined opcodes 27 to 63, which the
table gives in three rows for every Type. -/
inductive Instr where
  | rdT0 (reg1 reg2 reg3 : RegIdx) (address : BitVec 4)  -- opcode 0: R100
  | rdT1 (reg1 reg2 : RegIdx) (address : BitVec 16)
  | rdT2 (address : BitVec 24)
  | rdT3 (reg1 reg2 : RegIdx) (address : BitVec 16)
  | wrT0 (reg1 reg2 reg3 : RegIdx) (address : BitVec 4)  -- opcode 1: R101
  | wrT1 (reg1 reg2 : RegIdx) (address : BitVec 16)
  | wrT2 (address : BitVec 24)
  | wrT3 (reg1 reg2 : RegIdx) (address : BitVec 16)
  | stT0 (reg1 reg2 reg3 : RegIdx) (address : BitVec 4)  -- opcode 2: R102
  | stT1 (reg1 reg2 : RegIdx) (address : BitVec 16)
  | stT2 (address : BitVec 24)
  | stT3 (reg1 reg2 : RegIdx) (address : BitVec 16)
  | lwT0 (reg1 reg2 reg3 : RegIdx) (address : BitVec 4)  -- opcode 3: R103
  | lwT1 (reg1 reg2 : RegIdx) (address : BitVec 16)
  | lwT2 (address : BitVec 24)
  | lwT3 (reg1 reg2 : RegIdx) (address : BitVec 16)
  | movT0 (reg1 reg2 reg3 : RegIdx) (address : BitVec 4)  -- opcode 4: R110
  | movT1 (reg1 reg2 : RegIdx) (address : BitVec 16)
  | movT2 (address : BitVec 24)
  | movT3 (reg1 reg2 : RegIdx) (address : BitVec 16)
  | addT0 (reg1 reg2 reg3 : RegIdx) (address : BitVec 4)  -- opcode 5: R111
  | addT1 (reg1 reg2 : RegIdx) (address : BitVec 16)
  | addT2 (address : BitVec 24)
  | addT3 (reg1 reg2 : RegIdx) (address : BitVec 16)
  | subT0 (reg1 reg2 reg3 : RegIdx) (address : BitVec 4)  -- opcode 6: R112
  | subT1 (reg1 reg2 : RegIdx) (address : BitVec 16)
  | subT2 (address : BitVec 24)
  | subT3 (reg1 reg2 : RegIdx) (address : BitVec 16)
  | mulT0 (reg1 reg2 reg3 : RegIdx) (address : BitVec 4)  -- opcode 7: R113
  | mulT1 (reg1 reg2 : RegIdx) (address : BitVec 16)
  | mulT2 (address : BitVec 24)
  | mulT3 (reg1 reg2 : RegIdx) (address : BitVec 16)
  | divT0 (reg1 reg2 reg3 : RegIdx) (address : BitVec 4)  -- opcode 8: R114
  | divT1 (reg1 reg2 : RegIdx) (address : BitVec 16)
  | divT2 (address : BitVec 24)
  | divT3 (reg1 reg2 : RegIdx) (address : BitVec 16)
  | andT0 (reg1 reg2 reg3 : RegIdx) (address : BitVec 4)  -- opcode 9: R115
  | andT1 (reg1 reg2 : RegIdx) (address : BitVec 16)
  | andT2 (address : BitVec 24)
  | andT3 (reg1 reg2 : RegIdx) (address : BitVec 16)
  | orT0 (reg1 reg2 reg3 : RegIdx) (address : BitVec 4)  -- opcode 10: R116
  | orT1 (reg1 reg2 : RegIdx) (address : BitVec 16)
  | orT2 (address : BitVec 24)
  | orT3 (reg1 reg2 : RegIdx) (address : BitVec 16)
  | moviT0 (reg1 reg2 reg3 : RegIdx) (address : BitVec 4)  -- opcode 11: R104
  | moviT1 (reg1 reg2 : RegIdx) (address : BitVec 16)
  | moviT2 (address : BitVec 24)
  | moviT3 (reg1 reg2 : RegIdx) (address : BitVec 16)
  | addiT0 (reg1 reg2 reg3 : RegIdx) (address : BitVec 4)  -- opcode 12: R105
  | addiT1 (reg1 reg2 : RegIdx) (address : BitVec 16)
  | addiT2 (address : BitVec 24)
  | addiT3 (reg1 reg2 : RegIdx) (address : BitVec 16)
  | muliT0 (reg1 reg2 reg3 : RegIdx) (address : BitVec 4)  -- opcode 13: R106
  | muliT1 (reg1 reg2 : RegIdx) (address : BitVec 16)
  | muliT2 (address : BitVec 24)
  | muliT3 (reg1 reg2 : RegIdx) (address : BitVec 16)
  | diviT0 (reg1 reg2 reg3 : RegIdx) (address : BitVec 4)  -- opcode 14: R107
  | diviT1 (reg1 reg2 : RegIdx) (address : BitVec 16)
  | diviT2 (address : BitVec 24)
  | diviT3 (reg1 reg2 : RegIdx) (address : BitVec 16)
  | ldiT0 (reg1 reg2 reg3 : RegIdx) (address : BitVec 4)  -- opcode 15: R108
  | ldiT1 (reg1 reg2 : RegIdx) (address : BitVec 16)
  | ldiT2 (address : BitVec 24)
  | ldiT3 (reg1 reg2 : RegIdx) (address : BitVec 16)
  | sltT0 (reg1 reg2 reg3 : RegIdx) (address : BitVec 4)  -- opcode 16: R117
  | sltT1 (reg1 reg2 : RegIdx) (address : BitVec 16)
  | sltT2 (address : BitVec 24)
  | sltT3 (reg1 reg2 : RegIdx) (address : BitVec 16)
  | sltiT0 (reg1 reg2 reg3 : RegIdx) (address : BitVec 4)  -- opcode 17: R118
  | sltiT1 (reg1 reg2 : RegIdx) (address : BitVec 16)
  | sltiT2 (address : BitVec 24)
  | sltiT3 (reg1 reg2 : RegIdx) (address : BitVec 16)
  | hltT0 (reg1 reg2 reg3 : RegIdx) (address : BitVec 4)  -- opcode 18: R130
  | hltT1 (reg1 reg2 : RegIdx) (address : BitVec 16)
  | hltT2 (address : BitVec 24)
  | hltT3 (reg1 reg2 : RegIdx) (address : BitVec 16)
  | nopT0 (reg1 reg2 reg3 : RegIdx) (address : BitVec 4)  -- opcode 19: R131
  | nopT1 (reg1 reg2 : RegIdx) (address : BitVec 16)
  | nopT2 (address : BitVec 24)
  | nopT3 (reg1 reg2 : RegIdx) (address : BitVec 16)
  | jmpT0 (reg1 reg2 reg3 : RegIdx) (address : BitVec 4)  -- opcode 20: R132
  | jmpT1 (reg1 reg2 : RegIdx) (address : BitVec 16)
  | jmpT2 (address : BitVec 24)
  | jmpT3 (reg1 reg2 : RegIdx) (address : BitVec 16)
  | beqT0 (reg1 reg2 reg3 : RegIdx) (address : BitVec 4)  -- opcode 21: R133
  | beqT1 (reg1 reg2 : RegIdx) (address : BitVec 16)
  | beqT2 (address : BitVec 24)
  | beqT3 (reg1 reg2 : RegIdx) (address : BitVec 16)
  | bneT0 (reg1 reg2 reg3 : RegIdx) (address : BitVec 4)  -- opcode 22: R134
  | bneT1 (reg1 reg2 : RegIdx) (address : BitVec 16)
  | bneT2 (address : BitVec 24)
  | bneT3 (reg1 reg2 : RegIdx) (address : BitVec 16)
  | bezT0 (reg1 reg2 reg3 : RegIdx) (address : BitVec 4)  -- opcode 23: R135
  | bezT1 (reg1 reg2 : RegIdx) (address : BitVec 16)
  | bezT2 (address : BitVec 24)
  | bezT3 (reg1 reg2 : RegIdx) (address : BitVec 16)
  | bnzT0 (reg1 reg2 reg3 : RegIdx) (address : BitVec 4)  -- opcode 24: R136
  | bnzT1 (reg1 reg2 : RegIdx) (address : BitVec 16)
  | bnzT2 (address : BitVec 24)
  | bnzT3 (reg1 reg2 : RegIdx) (address : BitVec 16)
  | bgzT0 (reg1 reg2 reg3 : RegIdx) (address : BitVec 4)  -- opcode 25: R137
  | bgzT1 (reg1 reg2 : RegIdx) (address : BitVec 16)
  | bgzT2 (address : BitVec 24)
  | bgzT3 (reg1 reg2 : RegIdx) (address : BitVec 16)
  | blzT0 (reg1 reg2 reg3 : RegIdx) (address : BitVec 4)  -- opcode 26: R138
  | blzT1 (reg1 reg2 : RegIdx) (address : BitVec 16)
  | blzT2 (address : BitVec 24)
  | blzT3 (reg1 reg2 : RegIdx) (address : BitVec 16)
  -- opcodes 27 to 63: 40_cycle R90
  | undef27 (type : BitVec 2) (operands : BitVec 24)
  | undef28to31 (type : BitVec 2) (opcode : BitVec 6) (operands : BitVec 24)
  | undef32to63 (type : BitVec 2) (opcode : BitVec 6) (operands : BitVec 24)
  deriving DecidableEq, Repr

end Sys2Proof
end

