-- ==== Sys2Proof/WellFormed.lean ====
section
/-! DEFINITION. Well-formed instructions. Every operand field has its encoding's width by its type, so the only
checks are the opcode ranges of the two table rows that stand for several undefined opcodes (30_encoding R69). -/

namespace Sys2Proof

/-- An instruction that some word encodes: the opcode carried by a row of undefined opcodes lies in that row's
range (`UNDEF28_31`: 28 to 31, `UNDEF32_63`: 32 to 63; the table's match and mask). -/
def Instr.wf : Instr → Bool
  | .rdT0 .. | .rdT1 .. | .rdT2 .. | .rdT3 .. => true
  | .wrT0 .. | .wrT1 .. | .wrT2 .. | .wrT3 .. => true
  | .stT0 .. | .stT1 .. | .stT2 .. | .stT3 .. => true
  | .lwT0 .. | .lwT1 .. | .lwT2 .. | .lwT3 .. => true
  | .movT0 .. | .movT1 .. | .movT2 .. | .movT3 .. => true
  | .addT0 .. | .addT1 .. | .addT2 .. | .addT3 .. => true
  | .subT0 .. | .subT1 .. | .subT2 .. | .subT3 .. => true
  | .mulT0 .. | .mulT1 .. | .mulT2 .. | .mulT3 .. => true
  | .divT0 .. | .divT1 .. | .divT2 .. | .divT3 .. => true
  | .andT0 .. | .andT1 .. | .andT2 .. | .andT3 .. => true
  | .orT0 .. | .orT1 .. | .orT2 .. | .orT3 .. => true
  | .moviT0 .. | .moviT1 .. | .moviT2 .. | .moviT3 .. => true
  | .addiT0 .. | .addiT1 .. | .addiT2 .. | .addiT3 .. => true
  | .muliT0 .. | .muliT1 .. | .muliT2 .. | .muliT3 .. => true
  | .diviT0 .. | .diviT1 .. | .diviT2 .. | .diviT3 .. => true
  | .ldiT0 .. | .ldiT1 .. | .ldiT2 .. | .ldiT3 .. => true
  | .sltT0 .. | .sltT1 .. | .sltT2 .. | .sltT3 .. => true
  | .sltiT0 .. | .sltiT1 .. | .sltiT2 .. | .sltiT3 .. => true
  | .hltT0 .. | .hltT1 .. | .hltT2 .. | .hltT3 .. => true
  | .nopT0 .. | .nopT1 .. | .nopT2 .. | .nopT3 .. => true
  | .jmpT0 .. | .jmpT1 .. | .jmpT2 .. | .jmpT3 .. => true
  | .beqT0 .. | .beqT1 .. | .beqT2 .. | .beqT3 .. => true
  | .bneT0 .. | .bneT1 .. | .bneT2 .. | .bneT3 .. => true
  | .bezT0 .. | .bezT1 .. | .bezT2 .. | .bezT3 .. => true
  | .bnzT0 .. | .bnzT1 .. | .bnzT2 .. | .bnzT3 .. => true
  | .bgzT0 .. | .bgzT1 .. | .bgzT2 .. | .bgzT3 .. => true
  | .blzT0 .. | .blzT1 .. | .blzT2 .. | .blzT3 .. => true
  | .undef27 .. => true
  | .undef28to31 _ opcode _ => 28 ≤ opcode.toNat && opcode.toNat ≤ 31
  | .undef32to63 _ opcode _ => 32 ≤ opcode.toNat

/-- `Instr.wf` as a proposition. -/
abbrev Instr.WellFormed (i : Instr) : Prop := i.wf = true

end Sys2Proof
end

