-- ==== Sys2Proof/Decode.lean ====
section
/-! DEFINITION. Decode and encode (30_encoding R61 to R65, R70, R71, R76; 40_cycle R83 to R85). Decode is total:
every 32-bit word decodes and none is rejected (R85). -/

namespace Sys2Proof

/-- The Type field, `w[31:30]` (30_encoding R61). -/
def typeOf (w : Word) : BitVec 2 := w.extractLsb' 30 2

/-- The Opcode field, `w[29:24]` (30_encoding R61). -/
def opcodeOf (w : Word) : BitVec 6 := w.extractLsb' 24 6

/-- The `reg1` field, `w[23:20]`, of Types 0, 1 and 3 (30_encoding R62). -/
def reg1Of (w : Word) : RegIdx := w.extractLsb' 20 4

/-- The `reg2` field, `w[19:16]`, of Types 0, 1 and 3 (30_encoding R62). -/
def reg2Of (w : Word) : RegIdx := w.extractLsb' 16 4

/-- The `reg3` field, `w[15:12]`, of Type 0 (30_encoding R62). -/
def reg3Of (w : Word) : RegIdx := w.extractLsb' 12 4

/-- The 4-bit `address` field, `w[11:8]`, of Type 0 (30_encoding R62; the spare bits `w[7:0]` belong to no
field, R63). -/
def address4Of (w : Word) : BitVec 4 := w.extractLsb' 8 4

/-- The 16-bit `address` field, `w[15:0]`, of Types 1 and 3 (30_encoding R62). -/
def address16Of (w : Word) : BitVec 16 := w.extractLsb' 0 16

/-- The 24-bit `address` field, `w[23:0]`, of Type 2 (30_encoding R62), which is also all the operand bits of an
undefined opcode. -/
def address24Of (w : Word) : BitVec 24 := w.extractLsb' 0 24

/-- The operand members that a word's Type supplies (40_cycle R84). -/
def operandsOf (w : Word) : Operands :=
  match (typeOf w).toNat with
  | 0 => .type0 (reg1Of w) (reg2Of w) (reg3Of w) (address4Of w)
  | 2 => .type2 (address24Of w)
  | _ => .type13 (reg1Of w) (reg2Of w) (address16Of w)

/-- The Operand List of a word (40_cycle R84), before any row of the table is chosen. -/
def operandListOf (w : Word) : OperandList := ⟨typeOf w, opcodeOf w, operandsOf w⟩

/-- The instruction of one opcode: the constructor of the word's Type applied to the fields of that Type. -/
def byType (w : Word) (t0 : RegIdx → RegIdx → RegIdx → BitVec 4 → Instr) (t1 : RegIdx → RegIdx → BitVec 16 → Instr)
    (t2 : BitVec 24 → Instr) (t3 : RegIdx → RegIdx → BitVec 16 → Instr) : Instr :=
  match (typeOf w).toNat with
  | 0 => t0 (reg1Of w) (reg2Of w) (reg3Of w) (address4Of w)
  | 1 => t1 (reg1Of w) (reg2Of w) (address16Of w)
  | 2 => t2 (address24Of w)
  | _ => t3 (reg1Of w) (reg2Of w) (address16Of w)

/-- The opcode map (30_encoding R66, R69). -/
def decode (w : Word) : Instr :=
  match (opcodeOf w).toNat with
  | 0 => byType w .rdT0 .rdT1 .rdT2 .rdT3
  | 1 => byType w .wrT0 .wrT1 .wrT2 .wrT3
  | 2 => byType w .stT0 .stT1 .stT2 .stT3
  | 3 => byType w .lwT0 .lwT1 .lwT2 .lwT3
  | 4 => byType w .movT0 .movT1 .movT2 .movT3
  | 5 => byType w .addT0 .addT1 .addT2 .addT3
  | 6 => byType w .subT0 .subT1 .subT2 .subT3
  | 7 => byType w .mulT0 .mulT1 .mulT2 .mulT3
  | 8 => byType w .divT0 .divT1 .divT2 .divT3
  | 9 => byType w .andT0 .andT1 .andT2 .andT3
  | 10 => byType w .orT0 .orT1 .orT2 .orT3
  | 11 => byType w .moviT0 .moviT1 .moviT2 .moviT3
  | 12 => byType w .addiT0 .addiT1 .addiT2 .addiT3
  | 13 => byType w .muliT0 .muliT1 .muliT2 .muliT3
  | 14 => byType w .diviT0 .diviT1 .diviT2 .diviT3
  | 15 => byType w .ldiT0 .ldiT1 .ldiT2 .ldiT3
  | 16 => byType w .sltT0 .sltT1 .sltT2 .sltT3
  | 17 => byType w .sltiT0 .sltiT1 .sltiT2 .sltiT3
  | 18 => byType w .hltT0 .hltT1 .hltT2 .hltT3
  | 19 => byType w .nopT0 .nopT1 .nopT2 .nopT3
  | 20 => byType w .jmpT0 .jmpT1 .jmpT2 .jmpT3
  | 21 => byType w .beqT0 .beqT1 .beqT2 .beqT3
  | 22 => byType w .bneT0 .bneT1 .bneT2 .bneT3
  | 23 => byType w .bezT0 .bezT1 .bezT2 .bezT3
  | 24 => byType w .bnzT0 .bnzT1 .bnzT2 .bnzT3
  | 25 => byType w .bgzT0 .bgzT1 .bgzT2 .bgzT3
  | 26 => byType w .blzT0 .blzT1 .blzT2 .blzT3
  | 27 => .undef27 (typeOf w) (address24Of w)
  | n =>
    if n < 32 then .undef28to31 (typeOf w) (opcodeOf w) (address24Of w)
    else .undef32to63 (typeOf w) (opcodeOf w) (address24Of w)

/-- A Type 0 word, spare bits 0 (30_encoding R76). -/
def encode0 (opcode : BitVec 6) (reg1 reg2 reg3 : RegIdx) (address : BitVec 4) : Word :=
  0#2 ++ opcode ++ reg1 ++ reg2 ++ reg3 ++ address ++ 0#8

/-- A Type 1 word (30_encoding R76). -/
def encode1 (opcode : BitVec 6) (reg1 reg2 : RegIdx) (address : BitVec 16) : Word :=
  1#2 ++ opcode ++ reg1 ++ reg2 ++ address

/-- A Type 2 word (30_encoding R76). -/
def encode2 (opcode : BitVec 6) (address : BitVec 24) : Word := 2#2 ++ opcode ++ address

/-- A Type 3 word (30_encoding R76). -/
def encode3 (opcode : BitVec 6) (reg1 reg2 : RegIdx) (address : BitVec 16) : Word :=
  3#2 ++ opcode ++ reg1 ++ reg2 ++ address

/-- A word of an undefined opcode, its 24 operand bits as they stand (30_encoding R69;
DESIGN CHOICE, safe, log 13). -/
def encodeUndef (type : BitVec 2) (opcode : BitVec 6) (operands : BitVec 24) : Word := type ++ opcode ++ operands

/-- The word of an instruction, written from the tables of 30_encoding R62 and R66. -/
def encode : Instr → Word
  | .rdT0 r1 r2 r3 a => encode0 0 r1 r2 r3 a
  | .rdT1 r1 r2 a => encode1 0 r1 r2 a
  | .rdT2 a => encode2 0 a
  | .rdT3 r1 r2 a => encode3 0 r1 r2 a
  | .wrT0 r1 r2 r3 a => encode0 1 r1 r2 r3 a
  | .wrT1 r1 r2 a => encode1 1 r1 r2 a
  | .wrT2 a => encode2 1 a
  | .wrT3 r1 r2 a => encode3 1 r1 r2 a
  | .stT0 r1 r2 r3 a => encode0 2 r1 r2 r3 a
  | .stT1 r1 r2 a => encode1 2 r1 r2 a
  | .stT2 a => encode2 2 a
  | .stT3 r1 r2 a => encode3 2 r1 r2 a
  | .lwT0 r1 r2 r3 a => encode0 3 r1 r2 r3 a
  | .lwT1 r1 r2 a => encode1 3 r1 r2 a
  | .lwT2 a => encode2 3 a
  | .lwT3 r1 r2 a => encode3 3 r1 r2 a
  | .movT0 r1 r2 r3 a => encode0 4 r1 r2 r3 a
  | .movT1 r1 r2 a => encode1 4 r1 r2 a
  | .movT2 a => encode2 4 a
  | .movT3 r1 r2 a => encode3 4 r1 r2 a
  | .addT0 r1 r2 r3 a => encode0 5 r1 r2 r3 a
  | .addT1 r1 r2 a => encode1 5 r1 r2 a
  | .addT2 a => encode2 5 a
  | .addT3 r1 r2 a => encode3 5 r1 r2 a
  | .subT0 r1 r2 r3 a => encode0 6 r1 r2 r3 a
  | .subT1 r1 r2 a => encode1 6 r1 r2 a
  | .subT2 a => encode2 6 a
  | .subT3 r1 r2 a => encode3 6 r1 r2 a
  | .mulT0 r1 r2 r3 a => encode0 7 r1 r2 r3 a
  | .mulT1 r1 r2 a => encode1 7 r1 r2 a
  | .mulT2 a => encode2 7 a
  | .mulT3 r1 r2 a => encode3 7 r1 r2 a
  | .divT0 r1 r2 r3 a => encode0 8 r1 r2 r3 a
  | .divT1 r1 r2 a => encode1 8 r1 r2 a
  | .divT2 a => encode2 8 a
  | .divT3 r1 r2 a => encode3 8 r1 r2 a
  | .andT0 r1 r2 r3 a => encode0 9 r1 r2 r3 a
  | .andT1 r1 r2 a => encode1 9 r1 r2 a
  | .andT2 a => encode2 9 a
  | .andT3 r1 r2 a => encode3 9 r1 r2 a
  | .orT0 r1 r2 r3 a => encode0 10 r1 r2 r3 a
  | .orT1 r1 r2 a => encode1 10 r1 r2 a
  | .orT2 a => encode2 10 a
  | .orT3 r1 r2 a => encode3 10 r1 r2 a
  | .moviT0 r1 r2 r3 a => encode0 11 r1 r2 r3 a
  | .moviT1 r1 r2 a => encode1 11 r1 r2 a
  | .moviT2 a => encode2 11 a
  | .moviT3 r1 r2 a => encode3 11 r1 r2 a
  | .addiT0 r1 r2 r3 a => encode0 12 r1 r2 r3 a
  | .addiT1 r1 r2 a => encode1 12 r1 r2 a
  | .addiT2 a => encode2 12 a
  | .addiT3 r1 r2 a => encode3 12 r1 r2 a
  | .muliT0 r1 r2 r3 a => encode0 13 r1 r2 r3 a
  | .muliT1 r1 r2 a => encode1 13 r1 r2 a
  | .muliT2 a => encode2 13 a
  | .muliT3 r1 r2 a => encode3 13 r1 r2 a
  | .diviT0 r1 r2 r3 a => encode0 14 r1 r2 r3 a
  | .diviT1 r1 r2 a => encode1 14 r1 r2 a
  | .diviT2 a => encode2 14 a
  | .diviT3 r1 r2 a => encode3 14 r1 r2 a
  | .ldiT0 r1 r2 r3 a => encode0 15 r1 r2 r3 a
  | .ldiT1 r1 r2 a => encode1 15 r1 r2 a
  | .ldiT2 a => encode2 15 a
  | .ldiT3 r1 r2 a => encode3 15 r1 r2 a
  | .sltT0 r1 r2 r3 a => encode0 16 r1 r2 r3 a
  | .sltT1 r1 r2 a => encode1 16 r1 r2 a
  | .sltT2 a => encode2 16 a
  | .sltT3 r1 r2 a => encode3 16 r1 r2 a
  | .sltiT0 r1 r2 r3 a => encode0 17 r1 r2 r3 a
  | .sltiT1 r1 r2 a => encode1 17 r1 r2 a
  | .sltiT2 a => encode2 17 a
  | .sltiT3 r1 r2 a => encode3 17 r1 r2 a
  | .hltT0 r1 r2 r3 a => encode0 18 r1 r2 r3 a
  | .hltT1 r1 r2 a => encode1 18 r1 r2 a
  | .hltT2 a => encode2 18 a
  | .hltT3 r1 r2 a => encode3 18 r1 r2 a
  | .nopT0 r1 r2 r3 a => encode0 19 r1 r2 r3 a
  | .nopT1 r1 r2 a => encode1 19 r1 r2 a
  | .nopT2 a => encode2 19 a
  | .nopT3 r1 r2 a => encode3 19 r1 r2 a
  | .jmpT0 r1 r2 r3 a => encode0 20 r1 r2 r3 a
  | .jmpT1 r1 r2 a => encode1 20 r1 r2 a
  | .jmpT2 a => encode2 20 a
  | .jmpT3 r1 r2 a => encode3 20 r1 r2 a
  | .beqT0 r1 r2 r3 a => encode0 21 r1 r2 r3 a
  | .beqT1 r1 r2 a => encode1 21 r1 r2 a
  | .beqT2 a => encode2 21 a
  | .beqT3 r1 r2 a => encode3 21 r1 r2 a
  | .bneT0 r1 r2 r3 a => encode0 22 r1 r2 r3 a
  | .bneT1 r1 r2 a => encode1 22 r1 r2 a
  | .bneT2 a => encode2 22 a
  | .bneT3 r1 r2 a => encode3 22 r1 r2 a
  | .bezT0 r1 r2 r3 a => encode0 23 r1 r2 r3 a
  | .bezT1 r1 r2 a => encode1 23 r1 r2 a
  | .bezT2 a => encode2 23 a
  | .bezT3 r1 r2 a => encode3 23 r1 r2 a
  | .bnzT0 r1 r2 r3 a => encode0 24 r1 r2 r3 a
  | .bnzT1 r1 r2 a => encode1 24 r1 r2 a
  | .bnzT2 a => encode2 24 a
  | .bnzT3 r1 r2 a => encode3 24 r1 r2 a
  | .bgzT0 r1 r2 r3 a => encode0 25 r1 r2 r3 a
  | .bgzT1 r1 r2 a => encode1 25 r1 r2 a
  | .bgzT2 a => encode2 25 a
  | .bgzT3 r1 r2 a => encode3 25 r1 r2 a
  | .blzT0 r1 r2 r3 a => encode0 26 r1 r2 r3 a
  | .blzT1 r1 r2 a => encode1 26 r1 r2 a
  | .blzT2 a => encode2 26 a
  | .blzT3 r1 r2 a => encode3 26 r1 r2 a
  | .undef27 type operands => encodeUndef type 27 operands
  | .undef28to31 type opcode operands => encodeUndef type opcode operands
  | .undef32to63 type opcode operands => encodeUndef type opcode operands

/-- The operand members of an undefined opcode's 24 operand bits, cut as its Type says (40_cycle R84). -/
def undefOperands (type : BitVec 2) (operands : BitVec 24) : Operands :=
  match type.toNat with
  | 0 => .type0 (operands.extractLsb' 20 4) (operands.extractLsb' 16 4) (operands.extractLsb' 12 4) (operands.extractLsb' 8 4)
  | 2 => .type2 operands
  | _ => .type13 (operands.extractLsb' 20 4) (operands.extractLsb' 16 4) (operands.extractLsb' 0 16)

/-- The Operand List that stands behind an instruction (30_encoding R65, 40_cycle R84). -/
def Instr.operandList : Instr → OperandList
  | .rdT0 r1 r2 r3 a => ⟨0, 0, .type0 r1 r2 r3 a⟩
  | .rdT1 r1 r2 a => ⟨1, 0, .type13 r1 r2 a⟩
  | .rdT2 a => ⟨2, 0, .type2 a⟩
  | .rdT3 r1 r2 a => ⟨3, 0, .type13 r1 r2 a⟩
  | .wrT0 r1 r2 r3 a => ⟨0, 1, .type0 r1 r2 r3 a⟩
  | .wrT1 r1 r2 a => ⟨1, 1, .type13 r1 r2 a⟩
  | .wrT2 a => ⟨2, 1, .type2 a⟩
  | .wrT3 r1 r2 a => ⟨3, 1, .type13 r1 r2 a⟩
  | .stT0 r1 r2 r3 a => ⟨0, 2, .type0 r1 r2 r3 a⟩
  | .stT1 r1 r2 a => ⟨1, 2, .type13 r1 r2 a⟩
  | .stT2 a => ⟨2, 2, .type2 a⟩
  | .stT3 r1 r2 a => ⟨3, 2, .type13 r1 r2 a⟩
  | .lwT0 r1 r2 r3 a => ⟨0, 3, .type0 r1 r2 r3 a⟩
  | .lwT1 r1 r2 a => ⟨1, 3, .type13 r1 r2 a⟩
  | .lwT2 a => ⟨2, 3, .type2 a⟩
  | .lwT3 r1 r2 a => ⟨3, 3, .type13 r1 r2 a⟩
  | .movT0 r1 r2 r3 a => ⟨0, 4, .type0 r1 r2 r3 a⟩
  | .movT1 r1 r2 a => ⟨1, 4, .type13 r1 r2 a⟩
  | .movT2 a => ⟨2, 4, .type2 a⟩
  | .movT3 r1 r2 a => ⟨3, 4, .type13 r1 r2 a⟩
  | .addT0 r1 r2 r3 a => ⟨0, 5, .type0 r1 r2 r3 a⟩
  | .addT1 r1 r2 a => ⟨1, 5, .type13 r1 r2 a⟩
  | .addT2 a => ⟨2, 5, .type2 a⟩
  | .addT3 r1 r2 a => ⟨3, 5, .type13 r1 r2 a⟩
  | .subT0 r1 r2 r3 a => ⟨0, 6, .type0 r1 r2 r3 a⟩
  | .subT1 r1 r2 a => ⟨1, 6, .type13 r1 r2 a⟩
  | .subT2 a => ⟨2, 6, .type2 a⟩
  | .subT3 r1 r2 a => ⟨3, 6, .type13 r1 r2 a⟩
  | .mulT0 r1 r2 r3 a => ⟨0, 7, .type0 r1 r2 r3 a⟩
  | .mulT1 r1 r2 a => ⟨1, 7, .type13 r1 r2 a⟩
  | .mulT2 a => ⟨2, 7, .type2 a⟩
  | .mulT3 r1 r2 a => ⟨3, 7, .type13 r1 r2 a⟩
  | .divT0 r1 r2 r3 a => ⟨0, 8, .type0 r1 r2 r3 a⟩
  | .divT1 r1 r2 a => ⟨1, 8, .type13 r1 r2 a⟩
  | .divT2 a => ⟨2, 8, .type2 a⟩
  | .divT3 r1 r2 a => ⟨3, 8, .type13 r1 r2 a⟩
  | .andT0 r1 r2 r3 a => ⟨0, 9, .type0 r1 r2 r3 a⟩
  | .andT1 r1 r2 a => ⟨1, 9, .type13 r1 r2 a⟩
  | .andT2 a => ⟨2, 9, .type2 a⟩
  | .andT3 r1 r2 a => ⟨3, 9, .type13 r1 r2 a⟩
  | .orT0 r1 r2 r3 a => ⟨0, 10, .type0 r1 r2 r3 a⟩
  | .orT1 r1 r2 a => ⟨1, 10, .type13 r1 r2 a⟩
  | .orT2 a => ⟨2, 10, .type2 a⟩
  | .orT3 r1 r2 a => ⟨3, 10, .type13 r1 r2 a⟩
  | .moviT0 r1 r2 r3 a => ⟨0, 11, .type0 r1 r2 r3 a⟩
  | .moviT1 r1 r2 a => ⟨1, 11, .type13 r1 r2 a⟩
  | .moviT2 a => ⟨2, 11, .type2 a⟩
  | .moviT3 r1 r2 a => ⟨3, 11, .type13 r1 r2 a⟩
  | .addiT0 r1 r2 r3 a => ⟨0, 12, .type0 r1 r2 r3 a⟩
  | .addiT1 r1 r2 a => ⟨1, 12, .type13 r1 r2 a⟩
  | .addiT2 a => ⟨2, 12, .type2 a⟩
  | .addiT3 r1 r2 a => ⟨3, 12, .type13 r1 r2 a⟩
  | .muliT0 r1 r2 r3 a => ⟨0, 13, .type0 r1 r2 r3 a⟩
  | .muliT1 r1 r2 a => ⟨1, 13, .type13 r1 r2 a⟩
  | .muliT2 a => ⟨2, 13, .type2 a⟩
  | .muliT3 r1 r2 a => ⟨3, 13, .type13 r1 r2 a⟩
  | .diviT0 r1 r2 r3 a => ⟨0, 14, .type0 r1 r2 r3 a⟩
  | .diviT1 r1 r2 a => ⟨1, 14, .type13 r1 r2 a⟩
  | .diviT2 a => ⟨2, 14, .type2 a⟩
  | .diviT3 r1 r2 a => ⟨3, 14, .type13 r1 r2 a⟩
  | .ldiT0 r1 r2 r3 a => ⟨0, 15, .type0 r1 r2 r3 a⟩
  | .ldiT1 r1 r2 a => ⟨1, 15, .type13 r1 r2 a⟩
  | .ldiT2 a => ⟨2, 15, .type2 a⟩
  | .ldiT3 r1 r2 a => ⟨3, 15, .type13 r1 r2 a⟩
  | .sltT0 r1 r2 r3 a => ⟨0, 16, .type0 r1 r2 r3 a⟩
  | .sltT1 r1 r2 a => ⟨1, 16, .type13 r1 r2 a⟩
  | .sltT2 a => ⟨2, 16, .type2 a⟩
  | .sltT3 r1 r2 a => ⟨3, 16, .type13 r1 r2 a⟩
  | .sltiT0 r1 r2 r3 a => ⟨0, 17, .type0 r1 r2 r3 a⟩
  | .sltiT1 r1 r2 a => ⟨1, 17, .type13 r1 r2 a⟩
  | .sltiT2 a => ⟨2, 17, .type2 a⟩
  | .sltiT3 r1 r2 a => ⟨3, 17, .type13 r1 r2 a⟩
  | .hltT0 r1 r2 r3 a => ⟨0, 18, .type0 r1 r2 r3 a⟩
  | .hltT1 r1 r2 a => ⟨1, 18, .type13 r1 r2 a⟩
  | .hltT2 a => ⟨2, 18, .type2 a⟩
  | .hltT3 r1 r2 a => ⟨3, 18, .type13 r1 r2 a⟩
  | .nopT0 r1 r2 r3 a => ⟨0, 19, .type0 r1 r2 r3 a⟩
  | .nopT1 r1 r2 a => ⟨1, 19, .type13 r1 r2 a⟩
  | .nopT2 a => ⟨2, 19, .type2 a⟩
  | .nopT3 r1 r2 a => ⟨3, 19, .type13 r1 r2 a⟩
  | .jmpT0 r1 r2 r3 a => ⟨0, 20, .type0 r1 r2 r3 a⟩
  | .jmpT1 r1 r2 a => ⟨1, 20, .type13 r1 r2 a⟩
  | .jmpT2 a => ⟨2, 20, .type2 a⟩
  | .jmpT3 r1 r2 a => ⟨3, 20, .type13 r1 r2 a⟩
  | .beqT0 r1 r2 r3 a => ⟨0, 21, .type0 r1 r2 r3 a⟩
  | .beqT1 r1 r2 a => ⟨1, 21, .type13 r1 r2 a⟩
  | .beqT2 a => ⟨2, 21, .type2 a⟩
  | .beqT3 r1 r2 a => ⟨3, 21, .type13 r1 r2 a⟩
  | .bneT0 r1 r2 r3 a => ⟨0, 22, .type0 r1 r2 r3 a⟩
  | .bneT1 r1 r2 a => ⟨1, 22, .type13 r1 r2 a⟩
  | .bneT2 a => ⟨2, 22, .type2 a⟩
  | .bneT3 r1 r2 a => ⟨3, 22, .type13 r1 r2 a⟩
  | .bezT0 r1 r2 r3 a => ⟨0, 23, .type0 r1 r2 r3 a⟩
  | .bezT1 r1 r2 a => ⟨1, 23, .type13 r1 r2 a⟩
  | .bezT2 a => ⟨2, 23, .type2 a⟩
  | .bezT3 r1 r2 a => ⟨3, 23, .type13 r1 r2 a⟩
  | .bnzT0 r1 r2 r3 a => ⟨0, 24, .type0 r1 r2 r3 a⟩
  | .bnzT1 r1 r2 a => ⟨1, 24, .type13 r1 r2 a⟩
  | .bnzT2 a => ⟨2, 24, .type2 a⟩
  | .bnzT3 r1 r2 a => ⟨3, 24, .type13 r1 r2 a⟩
  | .bgzT0 r1 r2 r3 a => ⟨0, 25, .type0 r1 r2 r3 a⟩
  | .bgzT1 r1 r2 a => ⟨1, 25, .type13 r1 r2 a⟩
  | .bgzT2 a => ⟨2, 25, .type2 a⟩
  | .bgzT3 r1 r2 a => ⟨3, 25, .type13 r1 r2 a⟩
  | .blzT0 r1 r2 r3 a => ⟨0, 26, .type0 r1 r2 r3 a⟩
  | .blzT1 r1 r2 a => ⟨1, 26, .type13 r1 r2 a⟩
  | .blzT2 a => ⟨2, 26, .type2 a⟩
  | .blzT3 r1 r2 a => ⟨3, 26, .type13 r1 r2 a⟩
  | .undef27 type operands => ⟨type, 27, undefOperands type operands⟩
  | .undef28to31 type opcode operands => ⟨type, opcode, undefOperands type operands⟩
  | .undef32to63 type opcode operands => ⟨type, opcode, undefOperands type operands⟩

/-- The instruction decoded from a row's bits as the opcode table numbers them: every instruction is one 32-bit
word (30_encoding R60), bit 0 its least significant bit, and bits above `nbits` are 0. -/
def decodeTableWord (nbits w : Nat) : Option Instr :=
  if nbits ≤ 32 ∧ w < 2 ^ nbits then some (decode (BitVec.ofNat 32 w)) else none

end Sys2Proof
end

