-- ==== Sys2Proof/Config.lean ====
section
/-! DEFINITION. What is fixed for every launch of the VM2024 core. No value of this machine is left
undefined by the spec, so there is no free value here; MEM_SIZE, IC, DMO and the memory image are launch
parameters and stand in the state (10_state, opening paragraph). -/

namespace Sys2Proof.Config

/-- The index of the instruction-holding register, an ordinary general register that every fetch
overwrites (10_state R23). -/
def instrReg : RegIdx := 2#4

/-- The least number of cells a launch may have (00_scope R7, 70_reset R176 (a)). -/
def minMemSize : Nat := 2

/-- The greatest number of cells a launch may have (00_scope R7, 70_reset R176 (a)). -/
def maxMemSize : Nat := 2147483647

/-- The one setting of HLT_ACTIVE that the spec is normative for (00_scope R10). -/
def hltActive : Bool := true

/-- The one setting of JUMP_INDIRECT that the spec is normative for (00_scope R10). -/
def jumpIndirect : Bool := true

end Sys2Proof.Config
end

