-- ==== Sys2Proof/Machine/State.lean ====
section
/-! DEFINITION. The architectural state of the VM2024 core as plain data: the tuple
`(x[0..15], pc, IC, DMO, mem[0..MEM_SIZE-1], fault)` of 10_state, with its reset values (10_state section 8). -/

namespace Sys2Proof.Machine

/-- One cell of the Memory Store as the core sees it (20_memory R41). -/
inductive Cell where
  /-- a 32-bit word: a data word or an instruction word -/
  | int (w : Word)
  /-- text that is no well-formed 32-bit integer: the "data" and "end" marker cells -/
  | nonInt
  deriving DecidableEq, Repr

/-- The memory: the cells that hold an `Int`, as (index, word) pairs; an index that is not listed is a `NonInt`
cell (DESIGN CHOICE, safe, log 2; DEDUCED, safe, log 3). The canonical form, indices strictly rising, is `Memory.wf`. -/
abbrev Memory := List (Nat × Word)

/-- The sub-kinds of Decode Error (10_state R33). -/
inductive DecodeErrorKind where
  /-- the fetched cell is no integer (60_exceptions R152 code 1) -/
  | fetchNonInt
  /-- the Type does not supply an operand the opcode needs (code 2) -/
  | arity
  /-- the data cell read is no integer (code 3) -/
  | dataNonInt
  deriving DecidableEq, Repr

/-- The values of the `fault` register other than `None` (10_state R33). An address is a mathematical integer. -/
inductive FatalCondition where
  | decodeError (kind : DecodeErrorKind) (addr : Int)
  | memoryFault (addr : Int)
  | arithmeticFault (addr : Int)
  deriving DecidableEq, Repr

/-- The state of the machine. -/
structure State where
  /-- the general registers `x[0]` to `x[15]`; `x[2]` is also the instruction-holding register (10_state R20, R23) -/
  regs : Vector Word 16
  /-- the program counter, a signed 32-bit cell index (10_state R26) -/
  pc : Word
  /-- `IC`, the halt gate's bound and the halt target (10_state R31, R32) -/
  ic : Nat
  /-- `DMO`, the data-segment base (10_state R31, R32) -/
  dmo : Nat
  /-- `MEM_SIZE`, the number of cells (00_scope R7) -/
  memSize : Nat
  /-- the cells (10_state R36) -/
  mem : Memory
  /-- the fault register; `none` is the spec's `None` (10_state R33) -/
  fault : Option FatalCondition
  deriving DecidableEq, Repr

/-- The reasons to stop with a host-level fault: THERE IS NONE. Each fatal condition of the core is a state the
spec describes in full (60_exceptions R156: the `fault` register written, the machine terminal), so it is a next
state (DEDUCED, safe, log 4). -/
inductive Fault where
  deriving DecidableEq, Repr

/-- The reasons to give no meaning. -/
inductive Refusal where
  /-- Raised by an arm of `exec` that has no meaning yet; no arm of this model is left so. Safe. -/
  | notModelled (mnemonic : String)
  /-- Raised by `step` and by `State.launch` where MEM_SIZE, IC, DMO or the image's length violate 70_reset R176
  (a) to (d): "has no meaning and a model should refuse it" (93 U12; DEDUCED, log 6). Safe. -/
  | launchViolated
  /-- Raised by `State.launch` where HLT_ACTIVE or JUMP_INDIRECT is not at its default (43_control R141, 93 U5,
  DEDUCED, log 9). Safe. -/
  | legacyMode
  deriving DecidableEq, Repr

/-- What a meaning or a step answers. -/
abbrev Result := Host.Outcome State Fault Refusal

/-- The machine right after reset (70_reset R170): registers 0, `pc` 0, no fault, nothing listed in memory. The
launch parameters have no reset value in the spec: `IC` and `DMO` are 0 and `MEM_SIZE` is 2, the least the
spec admits (DESIGN CHOICE, unsafe, log 1). -/
def State.reset : State where
  regs := Vector.replicate 16 0#32
  pc := 0#32
  ic := 0
  dmo := 0
  memSize := 2
  mem := []
  fault := none

end Sys2Proof.Machine
end

