-- ==== Sys2Proof/Machine/Memory.lean ====
section
/-! DEFINITION. Operations on the list of integer cells, and its canonical form (20_memory R41; DEDUCED,
safe, log 3). -/

namespace Sys2Proof.Machine

/-- The canonical form: indices strictly rising, so that equal memories are equal lists. -/
abbrev Memory.wf (m : Memory) : Prop := m.Pairwise (fun p q => p.1 < q.1)

/-- The cell at index `n`; an unlisted index is a `NonInt` cell (DESIGN CHOICE, safe, log 2). -/
def Memory.cell : Memory → Nat → Cell
  | [], _ => .nonInt
  | (k, w) :: m, n => if k = n then .int w else Memory.cell m n

/-- Replaces the content of cell `n` by `Int(v)` (20_memory R49), keeping the canonical form. -/
def Memory.put : Memory → Nat → Word → Memory
  | [], n, v => [(n, v)]
  | (k, w) :: m, n, v =>
    if n < k then (n, v) :: (k, w) :: m
    else if n = k then (n, v) :: m
    else (k, w) :: Memory.put m n v

/-- The memory of an image: its cells at the indices from `start` on (70_reset R173). -/
def Memory.ofCells (start : Nat) : List Cell → Memory
  | [] => []
  | .int w :: cs => (start, w) :: Memory.ofCells (start + 1) cs
  | .nonInt :: cs => Memory.ofCells (start + 1) cs

end Sys2Proof.Machine
end

