-- ==== Sys2Proof/Machine/Ops.lean ====
section
/-! DEFINITION. The named operations over registers, memory and control state, the raising of a fatal condition
among them. Every meaning is written over these. -/

namespace Sys2Proof.Machine

/-- `x[i]` (10_state R22). -/
def State.readReg (s : State) (i : RegIdx) : Word := s.regs.get i.toFin

/-- `x[i] <- v` (10_state R22); no register is hardwired (R20). -/
def State.writeReg (s : State) (i : RegIdx) (v : Word) : State := { s with regs := s.regs.set i.toNat v i.isLt }

/-- `pc <- v` (10_state R28). -/
def State.setPc (s : State) (v : Word) : State := { s with pc := v }

/-- `mem[n] <- Int(v)`, the in-place replacement of 20_memory R44 and R49, without the bounds check. -/
def State.putCell (s : State) (n : Nat) (v : Word) : State := { s with mem := s.mem.put n v }

/-- `fault <- F` (10_state R33). -/
def State.setFault (s : State) (f : FatalCondition) : State := { s with fault := some f }

/-- `mem[n]` (20_memory R44). -/
def State.cellAt (s : State) (n : Nat) : Cell := s.mem.cell n

/-- 70_reset R176 (a) to (c), the premises under which the spec's rules hold. -/
abbrev State.launchPremises (s : State) : Prop :=
  Config.minMemSize ≤ s.memSize ∧ s.memSize ≤ Config.maxMemSize ∧ s.ic < s.memSize ∧ s.dmo < s.memSize

/-- `running = (fault = None and pc < IC)`, a signed comparison (10_state R34, 40_cycle R80). -/
abbrev State.running (s : State) : Prop := s.fault = none ∧ s.pc.toInt < s.ic

/-- `halted = (fault = None and pc >= IC)` (10_state R34). -/
abbrev State.halted (s : State) : Prop := s.fault = none ∧ (s.ic : Int) ≤ s.pc.toInt

/-- `faulted = (fault != None)` (10_state R34). -/
abbrev State.faulted (s : State) : Prop := s.fault ≠ none

/-- Raises a fatal condition in execute or fetch (60_exceptions R156): the fault register is written and nothing
else; `pc` keeps the value it had at the start of the step. The machine goes to a state with no further step. -/
def State.raise (s : State) (f : FatalCondition) : Result := .next (s.setFault f)

/-- Goes on with the value of a fallible read or check, or raises its fatal condition, in which case nothing that
the continuation would have written is written (40_cycle R89). -/
def State.attempt {α : Type} (s : State) (r : Except FatalCondition α) (k : α → Result) : Result :=
  match r with
  | .ok a => k a
  | .error f => s.raise f

/-- `EA(a) = a + DMO`, in unbounded naturals (20_memory R46). -/
def State.effectiveAddress (s : State) (a : Nat) : Nat := a + s.dmo

/-- `MemCheck(i)`: an index is accepted exactly when `0 <= i < MEM_SIZE` (20_memory R44, R47). -/
def State.memCheck (s : State) (i : Int) : Except FatalCondition Nat :=
  if i < 0 ∨ (s.memSize : Int) ≤ i then .error (.memoryFault i) else .ok i.toNat

/-- The common part of `MemRead` and `Fetch`: the bounds check, then the integer in the cell, or the Decode Error of
the given kind where the cell is `NonInt`. -/
def State.readCell (s : State) (kind : DecodeErrorKind) (i : Int) : Except FatalCondition Word :=
  match s.memCheck i with
  | .error f => .error f
  | .ok n =>
    match s.cellAt n with
    | .int w => .ok w
    | .nonInt => .error (.decodeError kind i)

/-- `MemRead(i, 1)` (20_memory R48). -/
def State.memRead (s : State) (i : Int) : Except FatalCondition Word := s.readCell .dataNonInt i

/-- `Fetch(i)` (20_memory R50). -/
def State.fetchCell (s : State) (i : Int) : Except FatalCondition Word := s.readCell .fetchNonInt i

/-- `MemWrite(i, 1, v)`: the old content of the cell is not read (20_memory R49). -/
def State.memWrite (s : State) (i : Int) (v : Word) : Except FatalCondition State :=
  match s.memCheck i with
  | .error f => .error f
  | .ok n => .ok (s.putCell n v)

/-- `MemRead(EA(a), 1)`. -/
def State.readData (s : State) (a : Nat) : Except FatalCondition Word := s.memRead (s.effectiveAddress a)

/-- `MemWrite(EA(a), 1, v)`. -/
def State.writeData (s : State) (a : Nat) (v : Word) : Except FatalCondition State :=
  s.memWrite (s.effectiveAddress a) v

/-- Sequencing where execute produced no next-pc value: `pc <- pc + 1` (40_cycle R92). Within a step the sum cannot
overflow (10_state R29); outside one it wraps (DESIGN CHOICE, unsafe, log 7). -/
def State.advance (s : State) : Result := .next (s.setPc (s.pc + 1#32))

/-- Sequencing where execute produced the next-pc value `t`: `pc <- t`, unchecked (40_cycle R92). -/
def State.goTo (s : State) (t : Word) : Result := .next (s.setPc t)

/-- `x[i] <- v` as an instruction's one write, then the sequential advance (40_cycle R89, R92). -/
def State.finishReg (s : State) (i : RegIdx) (v : Word) : Result := (s.writeReg i v).advance

/-- Raises `DecodeError(ARITY, pc)` (40_cycle R86). -/
def State.raiseArity (s : State) : Result := s.raise (.decodeError .arity s.pc.toInt)

/-- The numeric cause code of the fault register (60_exceptions R152); the codes are labels (D15). -/
def causeCode : Option FatalCondition → Nat
  | none => 0
  | some (.decodeError .fetchNonInt _) => 1
  | some (.decodeError .arity _) => 2
  | some (.decodeError .dataNonInt _) => 3
  | some (.memoryFault _) => 4
  | some (.arithmeticFault _) => 5

end Sys2Proof.Machine
end

