-- ==== Sys2Proof/Machine/Operands.lean ====
section
/-! DEFINITION. The operand-availability check of the execute stage and the operand forms shared by several
opcodes. An opcode whose needed members are not all supplied by the Type raises `DecodeError(ARITY, pc)` before
anything else (40_cycle R86; "needs" column of 30_encoding R66). -/

namespace Sys2Proof.Machine

/-- needs reg1, reg2, address: `RD`, `WR`, `ST`, `LW`, `SLTI`, `BEQ`, `BNE` -/
def needReg1Reg2Address (D : Operands) (s : State) (k : RegIdx → RegIdx → Nat → Result) : Result :=
  match D.reg1, D.reg2, D.address with
  | some r1, some r2, some a => k r1 r2 a
  | _, _, _ => s.raiseArity

/-- needs reg1, reg2, reg3: `ADD`, `SUB`, `MUL`, `DIV`, `AND`, `OR`, `SLT` -/
def needReg1Reg2Reg3 (D : Operands) (s : State) (k : RegIdx → RegIdx → RegIdx → Result) : Result :=
  match D.reg1, D.reg2, D.reg3 with
  | some r1, some r2, some r3 => k r1 r2 r3
  | _, _, _ => s.raiseArity

/-- needs reg1, reg2: `MOV` -/
def needReg1Reg2 (D : Operands) (s : State) (k : RegIdx → RegIdx → Result) : Result :=
  match D.reg1, D.reg2 with
  | some r1, some r2 => k r1 r2
  | _, _ => s.raiseArity

/-- needs reg2, address: `MOVI`, `ADDI`, `MULI`, `DIVI`, `LDI` -/
def needReg2Address (D : Operands) (s : State) (k : RegIdx → Nat → Result) : Result :=
  match D.reg2, D.address with
  | some r2, some a => k r2 a
  | _, _ => s.raiseArity

/-- needs reg1, address: `BEZ`, `BNZ`, `BGZ`, `BLZ` -/
def needReg1Address (D : Operands) (s : State) (k : RegIdx → Nat → Result) : Result :=
  match D.reg1, D.address with
  | some r1, some a => k r1 a
  | _, _ => s.raiseArity

/-- needs address: `JMP` -/
def needAddress (D : Operands) (s : State) (k : Nat → Result) : Result :=
  match D.address with
  | some a => k a
  | none => s.raiseArity

/-- The source value of `RD` and `LW`: a register where the address operand is the sentinel 0, the cell at `EA(a)`
otherwise (41_move R109). -/
def State.loadOrCopy (s : State) (src : RegIdx) (a : Nat) : Except FatalCondition Word :=
  if a = 0 then .ok (s.readReg src) else s.readData a

/-- The effect of `WR` and `ST`: `src` into the register `dst` where the address operand is the sentinel 0, into the
cell at `EA(a)` otherwise (41_move R101, R102, R109). -/
def State.storeOrCopy (s : State) (src dst : RegIdx) (a : Nat) : Result :=
  if a = 0 then s.finishReg dst (s.readReg src)
  else s.attempt (s.writeData a (s.readReg src)) fun s' => s'.advance

/-- A three-register operation: sources `reg1` and `reg2` in that order, destination `reg3` (42_alu preamble). -/
def threeReg (f : Word → Word → Word) (D : Operands) (s : State) : Result :=
  needReg1Reg2Reg3 D s fun r1 r2 r3 => s.finishReg r3 (f (s.readReg r1) (s.readReg r2))

/-- A memory operand combined into `reg2`: the cell at `EA(a)` is read, with no sentinel, and `f (x[reg2]) cell` is
written to `reg2` (41_move R104 to R106, R108). -/
def combineData (f : Word → Word → Word) (D : Operands) (s : State) : Result :=
  needReg2Address D s fun r2 a => s.attempt (s.readData a) fun v => s.finishReg r2 (f (s.readReg r2) v)

/-- A jump through memory: `t <- MemRead(EA(a), 1)`, absolute and unchecked (43_control R139). -/
def State.jumpThrough (s : State) (a : Nat) : Result := s.attempt (s.readData a) fun t => s.goTo t

/-- A conditional jump: the target cell is read only where the condition holds (43_control R140). -/
def State.branchIf (s : State) (taken : Bool) (a : Nat) : Result := if taken then s.jumpThrough a else s.advance

end Sys2Proof.Machine
end

