-- ==== Sys2Proof/Machine/Alu.lean ====
section
/-! DEFINITION. The register ALU and comparison family, opcodes 4 to 10, 16 and 17 (42_alu). Which field is source
and which is destination is the spec's decision D7 (UNVERIFIED of the original
software, log 11). -/

namespace Sys2Proof.Machine

/-- `MOV` (42_alu R110): `reg1 <- reg2`. -/
def opMov (D : Operands) (s : State) : Result := needReg1Reg2 D s fun r1 r2 => s.finishReg r1 (s.readReg r2)

/-- `MOV`: R110 on the operands of Type 0. -/
def execMovT0 (reg1 reg2 reg3 : RegIdx) (address : BitVec 4) (s : State) : Result :=
  opMov (.type0 reg1 reg2 reg3 address) s

/-- `MOV.T1`: R110 on the operands of Type 1. -/
def execMovT1 (reg1 reg2 : RegIdx) (address : BitVec 16) (s : State) : Result :=
  opMov (.type13 reg1 reg2 address) s

/-- `MOV.T2`: R110 on the operands of Type 2. -/
def execMovT2 (address : BitVec 24) (s : State) : Result :=
  opMov (.type2 address) s

/-- `MOV.T3`: R110 on the operands of Type 3. -/
def execMovT3 (reg1 reg2 : RegIdx) (address : BitVec 16) (s : State) : Result :=
  opMov (.type13 reg1 reg2 address) s

/-- `ADD` (42_alu R111). -/
def opAdd (D : Operands) (s : State) : Result := threeReg addWord D s

/-- `ADD`: R111 on the operands of Type 0. -/
def execAddT0 (reg1 reg2 reg3 : RegIdx) (address : BitVec 4) (s : State) : Result :=
  opAdd (.type0 reg1 reg2 reg3 address) s

/-- `ADD.T1`: R111 on the operands of Type 1. -/
def execAddT1 (reg1 reg2 : RegIdx) (address : BitVec 16) (s : State) : Result :=
  opAdd (.type13 reg1 reg2 address) s

/-- `ADD.T2`: R111 on the operands of Type 2. -/
def execAddT2 (address : BitVec 24) (s : State) : Result :=
  opAdd (.type2 address) s

/-- `ADD.T3`: R111 on the operands of Type 3. -/
def execAddT3 (reg1 reg2 : RegIdx) (address : BitVec 16) (s : State) : Result :=
  opAdd (.type13 reg1 reg2 address) s

/-- `SUB` (42_alu R112). -/
def opSub (D : Operands) (s : State) : Result := threeReg subWord D s

/-- `SUB`: R112 on the operands of Type 0. -/
def execSubT0 (reg1 reg2 reg3 : RegIdx) (address : BitVec 4) (s : State) : Result :=
  opSub (.type0 reg1 reg2 reg3 address) s

/-- `SUB.T1`: R112 on the operands of Type 1. -/
def execSubT1 (reg1 reg2 : RegIdx) (address : BitVec 16) (s : State) : Result :=
  opSub (.type13 reg1 reg2 address) s

/-- `SUB.T2`: R112 on the operands of Type 2. -/
def execSubT2 (address : BitVec 24) (s : State) : Result :=
  opSub (.type2 address) s

/-- `SUB.T3`: R112 on the operands of Type 3. -/
def execSubT3 (reg1 reg2 : RegIdx) (address : BitVec 16) (s : State) : Result :=
  opSub (.type13 reg1 reg2 address) s

/-- `MUL` (42_alu R113). -/
def opMul (D : Operands) (s : State) : Result := threeReg mulWord D s

/-- `MUL`: R113 on the operands of Type 0. -/
def execMulT0 (reg1 reg2 reg3 : RegIdx) (address : BitVec 4) (s : State) : Result :=
  opMul (.type0 reg1 reg2 reg3 address) s

/-- `MUL.T1`: R113 on the operands of Type 1. -/
def execMulT1 (reg1 reg2 : RegIdx) (address : BitVec 16) (s : State) : Result :=
  opMul (.type13 reg1 reg2 address) s

/-- `MUL.T2`: R113 on the operands of Type 2. -/
def execMulT2 (address : BitVec 24) (s : State) : Result :=
  opMul (.type2 address) s

/-- `MUL.T3`: R113 on the operands of Type 3. -/
def execMulT3 (reg1 reg2 : RegIdx) (address : BitVec 16) (s : State) : Result :=
  opMul (.type13 reg1 reg2 address) s

/-- `DIV` (42_alu R114): the divisor `reg2` is tested for 0 before dividing (R122). -/
def opDiv (D : Operands) (s : State) : Result :=
  needReg1Reg2Reg3 D s fun r1 r2 r3 =>
    if s.readReg r2 = 0#32 then s.raise (.arithmeticFault s.pc.toInt)
    else s.finishReg r3 (tdiv (s.readReg r1) (s.readReg r2))

/-- `DIV`: R114 on the operands of Type 0. -/
def execDivT0 (reg1 reg2 reg3 : RegIdx) (address : BitVec 4) (s : State) : Result :=
  opDiv (.type0 reg1 reg2 reg3 address) s

/-- `DIV.T1`: R114 on the operands of Type 1. -/
def execDivT1 (reg1 reg2 : RegIdx) (address : BitVec 16) (s : State) : Result :=
  opDiv (.type13 reg1 reg2 address) s

/-- `DIV.T2`: R114 on the operands of Type 2. -/
def execDivT2 (address : BitVec 24) (s : State) : Result :=
  opDiv (.type2 address) s

/-- `DIV.T3`: R114 on the operands of Type 3. -/
def execDivT3 (reg1 reg2 : RegIdx) (address : BitVec 16) (s : State) : Result :=
  opDiv (.type13 reg1 reg2 address) s

/-- `AND` (42_alu R115): an equality test, not a bitwise operation. -/
def opAnd (D : Operands) (s : State) : Result := threeReg (fun a b => boolWord (valuesEqual a b)) D s

/-- `AND`: R115 on the operands of Type 0. -/
def execAndT0 (reg1 reg2 reg3 : RegIdx) (address : BitVec 4) (s : State) : Result :=
  opAnd (.type0 reg1 reg2 reg3 address) s

/-- `AND.T1`: R115 on the operands of Type 1. -/
def execAndT1 (reg1 reg2 : RegIdx) (address : BitVec 16) (s : State) : Result :=
  opAnd (.type13 reg1 reg2 address) s

/-- `AND.T2`: R115 on the operands of Type 2. -/
def execAndT2 (address : BitVec 24) (s : State) : Result :=
  opAnd (.type2 address) s

/-- `AND.T3`: R115 on the operands of Type 3. -/
def execAndT3 (reg1 reg2 : RegIdx) (address : BitVec 16) (s : State) : Result :=
  opAnd (.type13 reg1 reg2 address) s

/-- `OR` (42_alu R116): 1 where either value is literally 1. -/
def opOr (D : Operands) (s : State) : Result := threeReg (fun a b => boolWord (eitherIsOne a b)) D s

/-- `OR`: R116 on the operands of Type 0. -/
def execOrT0 (reg1 reg2 reg3 : RegIdx) (address : BitVec 4) (s : State) : Result :=
  opOr (.type0 reg1 reg2 reg3 address) s

/-- `OR.T1`: R116 on the operands of Type 1. -/
def execOrT1 (reg1 reg2 : RegIdx) (address : BitVec 16) (s : State) : Result :=
  opOr (.type13 reg1 reg2 address) s

/-- `OR.T2`: R116 on the operands of Type 2. -/
def execOrT2 (address : BitVec 24) (s : State) : Result :=
  opOr (.type2 address) s

/-- `OR.T3`: R116 on the operands of Type 3. -/
def execOrT3 (reg1 reg2 : RegIdx) (address : BitVec 16) (s : State) : Result :=
  opOr (.type13 reg1 reg2 address) s

/-- `SLT` (42_alu R117). -/
def opSlt (D : Operands) (s : State) : Result := threeReg (fun a b => boolWord (signedLess a b)) D s

/-- `SLT`: R117 on the operands of Type 0. -/
def execSltT0 (reg1 reg2 reg3 : RegIdx) (address : BitVec 4) (s : State) : Result :=
  opSlt (.type0 reg1 reg2 reg3 address) s

/-- `SLT.T1`: R117 on the operands of Type 1. -/
def execSltT1 (reg1 reg2 : RegIdx) (address : BitVec 16) (s : State) : Result :=
  opSlt (.type13 reg1 reg2 address) s

/-- `SLT.T2`: R117 on the operands of Type 2. -/
def execSltT2 (address : BitVec 24) (s : State) : Result :=
  opSlt (.type2 address) s

/-- `SLT.T3`: R117 on the operands of Type 3. -/
def execSltT3 (reg1 reg2 : RegIdx) (address : BitVec 16) (s : State) : Result :=
  opSlt (.type13 reg1 reg2 address) s

/-- `SLTI` (42_alu R118): left operand `reg1`, right operand the cell at `EA(a)`, destination `reg2`. -/
def opSlti (D : Operands) (s : State) : Result :=
  needReg1Reg2Address D s fun r1 r2 a =>
    s.attempt (s.readData a) fun v => s.finishReg r2 (boolWord (signedLess (s.readReg r1) v))

/-- `SLTI.T0`: R118 on the operands of Type 0. -/
def execSltiT0 (reg1 reg2 reg3 : RegIdx) (address : BitVec 4) (s : State) : Result :=
  opSlti (.type0 reg1 reg2 reg3 address) s

/-- `SLTI`: R118 on the operands of Type 1. -/
def execSltiT1 (reg1 reg2 : RegIdx) (address : BitVec 16) (s : State) : Result :=
  opSlti (.type13 reg1 reg2 address) s

/-- `SLTI.T2`: R118 on the operands of Type 2. -/
def execSltiT2 (address : BitVec 24) (s : State) : Result :=
  opSlti (.type2 address) s

/-- `SLTI.T3`: R118 on the operands of Type 3. -/
def execSltiT3 (reg1 reg2 : RegIdx) (address : BitVec 16) (s : State) : Result :=
  opSlti (.type13 reg1 reg2 address) s

end Sys2Proof.Machine
end

