-- ==== Sys2Proof/Machine/Control.lean ====
section
/-! DEFINITION. The control family, opcodes 18 to 26 (43_control), with HLT_ACTIVE and JUMP_INDIRECT at their
defaults, the only setting that a launch accepts (R141; DEDUCED, safe, log 9). -/

namespace Sys2Proof.Machine

/-- `HLT` (43_control R130): `pc <- IC`. It needs no operand and executes in every Type. An
IC that does not fit `pc`, which no launch has, gives its low 32 bits (DESIGN CHOICE, unsafe, log 7). -/
def opHlt (_D : Operands) (s : State) : Result := s.goTo (BitVec.ofNat 32 s.ic)

/-- `HLT.T0`: R130 on the operands of Type 0. -/
def execHltT0 (reg1 reg2 reg3 : RegIdx) (address : BitVec 4) (s : State) : Result :=
  opHlt (.type0 reg1 reg2 reg3 address) s

/-- `HLT.T1`: R130 on the operands of Type 1. -/
def execHltT1 (reg1 reg2 : RegIdx) (address : BitVec 16) (s : State) : Result :=
  opHlt (.type13 reg1 reg2 address) s

/-- `HLT`: R130 on the operands of Type 2. -/
def execHltT2 (address : BitVec 24) (s : State) : Result :=
  opHlt (.type2 address) s

/-- `HLT.T3`: R130 on the operands of Type 3. -/
def execHltT3 (reg1 reg2 : RegIdx) (address : BitVec 16) (s : State) : Result :=
  opHlt (.type13 reg1 reg2 address) s

/-- `NOP` (43_control R131): nothing but the sequential advance. -/
def opNop (_D : Operands) (s : State) : Result := s.advance

/-- `NOP`: R131 on the operands of Type 0. -/
def execNopT0 (reg1 reg2 reg3 : RegIdx) (address : BitVec 4) (s : State) : Result :=
  opNop (.type0 reg1 reg2 reg3 address) s

/-- `NOP.T1`: R131 on the operands of Type 1. -/
def execNopT1 (reg1 reg2 : RegIdx) (address : BitVec 16) (s : State) : Result :=
  opNop (.type13 reg1 reg2 address) s

/-- `NOP.T2`: R131 on the operands of Type 2. -/
def execNopT2 (address : BitVec 24) (s : State) : Result :=
  opNop (.type2 address) s

/-- `NOP.T3`: R131 on the operands of Type 3. -/
def execNopT3 (reg1 reg2 : RegIdx) (address : BitVec 16) (s : State) : Result :=
  opNop (.type13 reg1 reg2 address) s

/-- `JMP` (43_control R132). -/
def opJmp (D : Operands) (s : State) : Result := needAddress D s fun a => s.jumpThrough a

/-- `JMP.T0`: R132 on the operands of Type 0. -/
def execJmpT0 (reg1 reg2 reg3 : RegIdx) (address : BitVec 4) (s : State) : Result :=
  opJmp (.type0 reg1 reg2 reg3 address) s

/-- `JMP.T1`: R132 on the operands of Type 1. -/
def execJmpT1 (reg1 reg2 : RegIdx) (address : BitVec 16) (s : State) : Result :=
  opJmp (.type13 reg1 reg2 address) s

/-- `JMP`: R132 on the operands of Type 2. -/
def execJmpT2 (address : BitVec 24) (s : State) : Result :=
  opJmp (.type2 address) s

/-- `JMP.T3`: R132 on the operands of Type 3. -/
def execJmpT3 (reg1 reg2 : RegIdx) (address : BitVec 16) (s : State) : Result :=
  opJmp (.type13 reg1 reg2 address) s

/-- `BEQ` (43_control R133). -/
def opBeq (D : Operands) (s : State) : Result :=
  needReg1Reg2Address D s fun r1 r2 a => s.branchIf (valuesEqual (s.readReg r1) (s.readReg r2)) a

/-- `BEQ.T0`: R133 on the operands of Type 0. -/
def execBeqT0 (reg1 reg2 reg3 : RegIdx) (address : BitVec 4) (s : State) : Result :=
  opBeq (.type0 reg1 reg2 reg3 address) s

/-- `BEQ`: R133 on the operands of Type 1. -/
def execBeqT1 (reg1 reg2 : RegIdx) (address : BitVec 16) (s : State) : Result :=
  opBeq (.type13 reg1 reg2 address) s

/-- `BEQ.T2`: R133 on the operands of Type 2. -/
def execBeqT2 (address : BitVec 24) (s : State) : Result :=
  opBeq (.type2 address) s

/-- `BEQ.T3`: R133 on the operands of Type 3. -/
def execBeqT3 (reg1 reg2 : RegIdx) (address : BitVec 16) (s : State) : Result :=
  opBeq (.type13 reg1 reg2 address) s

/-- `BNE` (43_control R134). -/
def opBne (D : Operands) (s : State) : Result :=
  needReg1Reg2Address D s fun r1 r2 a => s.branchIf (!valuesEqual (s.readReg r1) (s.readReg r2)) a

/-- `BNE.T0`: R134 on the operands of Type 0. -/
def execBneT0 (reg1 reg2 reg3 : RegIdx) (address : BitVec 4) (s : State) : Result :=
  opBne (.type0 reg1 reg2 reg3 address) s

/-- `BNE`: R134 on the operands of Type 1. -/
def execBneT1 (reg1 reg2 : RegIdx) (address : BitVec 16) (s : State) : Result :=
  opBne (.type13 reg1 reg2 address) s

/-- `BNE.T2`: R134 on the operands of Type 2. -/
def execBneT2 (address : BitVec 24) (s : State) : Result :=
  opBne (.type2 address) s

/-- `BNE.T3`: R134 on the operands of Type 3. -/
def execBneT3 (reg1 reg2 : RegIdx) (address : BitVec 16) (s : State) : Result :=
  opBne (.type13 reg1 reg2 address) s

/-- `BEZ` (43_control R135). -/
def opBez (D : Operands) (s : State) : Result := needReg1Address D s fun r1 a => s.branchIf (isZero (s.readReg r1)) a

/-- `BEZ.T0`: R135 on the operands of Type 0. -/
def execBezT0 (reg1 reg2 reg3 : RegIdx) (address : BitVec 4) (s : State) : Result :=
  opBez (.type0 reg1 reg2 reg3 address) s

/-- `BEZ`: R135 on the operands of Type 1. -/
def execBezT1 (reg1 reg2 : RegIdx) (address : BitVec 16) (s : State) : Result :=
  opBez (.type13 reg1 reg2 address) s

/-- `BEZ.T2`: R135 on the operands of Type 2. -/
def execBezT2 (address : BitVec 24) (s : State) : Result :=
  opBez (.type2 address) s

/-- `BEZ.T3`: R135 on the operands of Type 3. -/
def execBezT3 (reg1 reg2 : RegIdx) (address : BitVec 16) (s : State) : Result :=
  opBez (.type13 reg1 reg2 address) s

/-- `BNZ` (43_control R136). -/
def opBnz (D : Operands) (s : State) : Result := needReg1Address D s fun r1 a => s.branchIf (!isZero (s.readReg r1)) a

/-- `BNZ.T0`: R136 on the operands of Type 0. -/
def execBnzT0 (reg1 reg2 reg3 : RegIdx) (address : BitVec 4) (s : State) : Result :=
  opBnz (.type0 reg1 reg2 reg3 address) s

/-- `BNZ`: R136 on the operands of Type 1. -/
def execBnzT1 (reg1 reg2 : RegIdx) (address : BitVec 16) (s : State) : Result :=
  opBnz (.type13 reg1 reg2 address) s

/-- `BNZ.T2`: R136 on the operands of Type 2. -/
def execBnzT2 (address : BitVec 24) (s : State) : Result :=
  opBnz (.type2 address) s

/-- `BNZ.T3`: R136 on the operands of Type 3. -/
def execBnzT3 (reg1 reg2 : RegIdx) (address : BitVec 16) (s : State) : Result :=
  opBnz (.type13 reg1 reg2 address) s

/-- `BGZ` (43_control R137). -/
def opBgz (D : Operands) (s : State) : Result :=
  needReg1Address D s fun r1 a => s.branchIf (isPositive (s.readReg r1)) a

/-- `BGZ.T0`: R137 on the operands of Type 0. -/
def execBgzT0 (reg1 reg2 reg3 : RegIdx) (address : BitVec 4) (s : State) : Result :=
  opBgz (.type0 reg1 reg2 reg3 address) s

/-- `BGZ`: R137 on the operands of Type 1. -/
def execBgzT1 (reg1 reg2 : RegIdx) (address : BitVec 16) (s : State) : Result :=
  opBgz (.type13 reg1 reg2 address) s

/-- `BGZ.T2`: R137 on the operands of Type 2. -/
def execBgzT2 (address : BitVec 24) (s : State) : Result :=
  opBgz (.type2 address) s

/-- `BGZ.T3`: R137 on the operands of Type 3. -/
def execBgzT3 (reg1 reg2 : RegIdx) (address : BitVec 16) (s : State) : Result :=
  opBgz (.type13 reg1 reg2 address) s

/-- `BLZ` (43_control R138). -/
def opBlz (D : Operands) (s : State) : Result :=
  needReg1Address D s fun r1 a => s.branchIf (isNegative (s.readReg r1)) a

/-- `BLZ.T0`: R138 on the operands of Type 0. -/
def execBlzT0 (reg1 reg2 reg3 : RegIdx) (address : BitVec 4) (s : State) : Result :=
  opBlz (.type0 reg1 reg2 reg3 address) s

/-- `BLZ`: R138 on the operands of Type 1. -/
def execBlzT1 (reg1 reg2 : RegIdx) (address : BitVec 16) (s : State) : Result :=
  opBlz (.type13 reg1 reg2 address) s

/-- `BLZ.T2`: R138 on the operands of Type 2. -/
def execBlzT2 (address : BitVec 24) (s : State) : Result :=
  opBlz (.type2 address) s

/-- `BLZ.T3`: R138 on the operands of Type 3. -/
def execBlzT3 (reg1 reg2 : RegIdx) (address : BitVec 16) (s : State) : Result :=
  opBlz (.type13 reg1 reg2 address) s

end Sys2Proof.Machine
end

