-- ==== Sys2Proof/Machine/Move.lean ====
section
/-! DEFINITION. The memory/register move family, opcodes 0 to 3 and 11 to 15 (41_move). Which field is source and
which is destination is the spec's decision D7 and D8 (UNVERIFIED of the
original software, log 11). -/

namespace Sys2Proof.Machine

/-- `RD` (41_move R100): `reg1 <- mem[EA(a)]`, or `reg1 <- reg2` where `a = 0`. -/
def opRd (D : Operands) (s : State) : Result :=
  needReg1Reg2Address D s fun r1 r2 a => s.attempt (s.loadOrCopy r2 a) fun v => s.finishReg r1 v

/-- `RD.T0`: R100 on the operands of Type 0. -/
def execRdT0 (reg1 reg2 reg3 : RegIdx) (address : BitVec 4) (s : State) : Result :=
  opRd (.type0 reg1 reg2 reg3 address) s

/-- `RD.T1`: R100 on the operands of Type 1. -/
def execRdT1 (reg1 reg2 : RegIdx) (address : BitVec 16) (s : State) : Result :=
  opRd (.type13 reg1 reg2 address) s

/-- `RD.T2`: R100 on the operands of Type 2. -/
def execRdT2 (address : BitVec 24) (s : State) : Result :=
  opRd (.type2 address) s

/-- `RD`: R100 on the operands of Type 3. -/
def execRdT3 (reg1 reg2 : RegIdx) (address : BitVec 16) (s : State) : Result :=
  opRd (.type13 reg1 reg2 address) s

/-- `WR` (41_move R101): `mem[EA(a)] <- reg1`, or `reg2 <- reg1` where `a = 0`. -/
def opWr (D : Operands) (s : State) : Result :=
  needReg1Reg2Address D s fun r1 r2 a => s.storeOrCopy r1 r2 a

/-- `WR.T0`: R101 on the operands of Type 0. -/
def execWrT0 (reg1 reg2 reg3 : RegIdx) (address : BitVec 4) (s : State) : Result :=
  opWr (.type0 reg1 reg2 reg3 address) s

/-- `WR.T1`: R101 on the operands of Type 1. -/
def execWrT1 (reg1 reg2 : RegIdx) (address : BitVec 16) (s : State) : Result :=
  opWr (.type13 reg1 reg2 address) s

/-- `WR.T2`: R101 on the operands of Type 2. -/
def execWrT2 (address : BitVec 24) (s : State) : Result :=
  opWr (.type2 address) s

/-- `WR`: R101 on the operands of Type 3. -/
def execWrT3 (reg1 reg2 : RegIdx) (address : BitVec 16) (s : State) : Result :=
  opWr (.type13 reg1 reg2 address) s

/-- `ST` (41_move R102): as `WR`. -/
def opSt (D : Operands) (s : State) : Result :=
  needReg1Reg2Address D s fun r1 r2 a => s.storeOrCopy r1 r2 a

/-- `ST.T0`: R102 on the operands of Type 0. -/
def execStT0 (reg1 reg2 reg3 : RegIdx) (address : BitVec 4) (s : State) : Result :=
  opSt (.type0 reg1 reg2 reg3 address) s

/-- `ST`: R102 on the operands of Type 1. -/
def execStT1 (reg1 reg2 : RegIdx) (address : BitVec 16) (s : State) : Result :=
  opSt (.type13 reg1 reg2 address) s

/-- `ST.T2`: R102 on the operands of Type 2. -/
def execStT2 (address : BitVec 24) (s : State) : Result :=
  opSt (.type2 address) s

/-- `ST.T3`: R102 on the operands of Type 3. -/
def execStT3 (reg1 reg2 : RegIdx) (address : BitVec 16) (s : State) : Result :=
  opSt (.type13 reg1 reg2 address) s

/-- `LW` (41_move R103): `reg2 <- mem[EA(a)]`, or `reg2 <- reg1` where `a = 0`. -/
def opLw (D : Operands) (s : State) : Result :=
  needReg1Reg2Address D s fun r1 r2 a => s.attempt (s.loadOrCopy r1 a) fun v => s.finishReg r2 v

/-- `LW.T0`: R103 on the operands of Type 0. -/
def execLwT0 (reg1 reg2 reg3 : RegIdx) (address : BitVec 4) (s : State) : Result :=
  opLw (.type0 reg1 reg2 reg3 address) s

/-- `LW`: R103 on the operands of Type 1. -/
def execLwT1 (reg1 reg2 : RegIdx) (address : BitVec 16) (s : State) : Result :=
  opLw (.type13 reg1 reg2 address) s

/-- `LW.T2`: R103 on the operands of Type 2. -/
def execLwT2 (address : BitVec 24) (s : State) : Result :=
  opLw (.type2 address) s

/-- `LW.T3`: R103 on the operands of Type 3. -/
def execLwT3 (reg1 reg2 : RegIdx) (address : BitVec 16) (s : State) : Result :=
  opLw (.type13 reg1 reg2 address) s

/-- `MOVI` (41_move R104): `reg2 <- mem[EA(a)]`, no sentinel. -/
def opMovi (D : Operands) (s : State) : Result := combineData (fun _ v => v) D s

/-- `MOVI.T0`: R104 on the operands of Type 0. -/
def execMoviT0 (reg1 reg2 reg3 : RegIdx) (address : BitVec 4) (s : State) : Result :=
  opMovi (.type0 reg1 reg2 reg3 address) s

/-- `MOVI`: R104 on the operands of Type 1. -/
def execMoviT1 (reg1 reg2 : RegIdx) (address : BitVec 16) (s : State) : Result :=
  opMovi (.type13 reg1 reg2 address) s

/-- `MOVI.T2`: R104 on the operands of Type 2. -/
def execMoviT2 (address : BitVec 24) (s : State) : Result :=
  opMovi (.type2 address) s

/-- `MOVI.T3`: R104 on the operands of Type 3. -/
def execMoviT3 (reg1 reg2 : RegIdx) (address : BitVec 16) (s : State) : Result :=
  opMovi (.type13 reg1 reg2 address) s

/-- `ADDI` (41_move R105). -/
def opAddi (D : Operands) (s : State) : Result := combineData addWord D s

/-- `ADDI.T0`: R105 on the operands of Type 0. -/
def execAddiT0 (reg1 reg2 reg3 : RegIdx) (address : BitVec 4) (s : State) : Result :=
  opAddi (.type0 reg1 reg2 reg3 address) s

/-- `ADDI`: R105 on the operands of Type 1. -/
def execAddiT1 (reg1 reg2 : RegIdx) (address : BitVec 16) (s : State) : Result :=
  opAddi (.type13 reg1 reg2 address) s

/-- `ADDI.T2`: R105 on the operands of Type 2. -/
def execAddiT2 (address : BitVec 24) (s : State) : Result :=
  opAddi (.type2 address) s

/-- `ADDI.T3`: R105 on the operands of Type 3. -/
def execAddiT3 (reg1 reg2 : RegIdx) (address : BitVec 16) (s : State) : Result :=
  opAddi (.type13 reg1 reg2 address) s

/-- `MULI` (41_move R106). -/
def opMuli (D : Operands) (s : State) : Result := combineData mulWord D s

/-- `MULI.T0`: R106 on the operands of Type 0. -/
def execMuliT0 (reg1 reg2 reg3 : RegIdx) (address : BitVec 4) (s : State) : Result :=
  opMuli (.type0 reg1 reg2 reg3 address) s

/-- `MULI`: R106 on the operands of Type 1. -/
def execMuliT1 (reg1 reg2 : RegIdx) (address : BitVec 16) (s : State) : Result :=
  opMuli (.type13 reg1 reg2 address) s

/-- `MULI.T2`: R106 on the operands of Type 2. -/
def execMuliT2 (address : BitVec 24) (s : State) : Result :=
  opMuli (.type2 address) s

/-- `MULI.T3`: R106 on the operands of Type 3. -/
def execMuliT3 (reg1 reg2 : RegIdx) (address : BitVec 16) (s : State) : Result :=
  opMuli (.type13 reg1 reg2 address) s

/-- `DIVI` (41_move R107): the cell is read, then tested for 0, then divides. -/
def opDivi (D : Operands) (s : State) : Result :=
  needReg2Address D s fun r2 a =>
    s.attempt (s.readData a) fun v =>
      if v = 0#32 then s.raise (.arithmeticFault s.pc.toInt) else s.finishReg r2 (tdiv (s.readReg r2) v)

/-- `DIVI.T0`: R107 on the operands of Type 0. -/
def execDiviT0 (reg1 reg2 reg3 : RegIdx) (address : BitVec 4) (s : State) : Result :=
  opDivi (.type0 reg1 reg2 reg3 address) s

/-- `DIVI`: R107 on the operands of Type 1. -/
def execDiviT1 (reg1 reg2 : RegIdx) (address : BitVec 16) (s : State) : Result :=
  opDivi (.type13 reg1 reg2 address) s

/-- `DIVI.T2`: R107 on the operands of Type 2. -/
def execDiviT2 (address : BitVec 24) (s : State) : Result :=
  opDivi (.type2 address) s

/-- `DIVI.T3`: R107 on the operands of Type 3. -/
def execDiviT3 (reg1 reg2 : RegIdx) (address : BitVec 16) (s : State) : Result :=
  opDivi (.type13 reg1 reg2 address) s

/-- `LDI` (41_move R108): "15 is defined identically to 11". -/
def opLdi (D : Operands) (s : State) : Result := combineData (fun _ v => v) D s

/-- `LDI.T0`: R108 on the operands of Type 0. -/
def execLdiT0 (reg1 reg2 reg3 : RegIdx) (address : BitVec 4) (s : State) : Result :=
  opLdi (.type0 reg1 reg2 reg3 address) s

/-- `LDI`: R108 on the operands of Type 1. -/
def execLdiT1 (reg1 reg2 : RegIdx) (address : BitVec 16) (s : State) : Result :=
  opLdi (.type13 reg1 reg2 address) s

/-- `LDI.T2`: R108 on the operands of Type 2. -/
def execLdiT2 (address : BitVec 24) (s : State) : Result :=
  opLdi (.type2 address) s

/-- `LDI.T3`: R108 on the operands of Type 3. -/
def execLdiT3 (reg1 reg2 : RegIdx) (address : BitVec 16) (s : State) : Result :=
  opLdi (.type13 reg1 reg2 address) s

end Sys2Proof.Machine
end

