-- ==== Sys2Proof/Machine/Undefined.lean ====
section
/-! DEFINITION. The undefined opcodes 27 to 63 (30_encoding R69, 40_cycle R90): a silent no-op in every Type and for
every operand bit; no operand is needed, so no ARITY fault arises. -/

namespace Sys2Proof.Machine

/-- The execute stage of an undefined opcode: nothing, then the sequential advance (40_cycle R90). -/
def opUndefined (s : State) : Result := s.advance

/-- `UNDEF27`. -/
def execUndef27 (_type : BitVec 2) (_operands : BitVec 24) (s : State) : Result := opUndefined s

/-- `UNDEF28_31`. -/
def execUndef28to31 (_type : BitVec 2) (_opcode : BitVec 6) (_operands : BitVec 24) (s : State) : Result :=
  opUndefined s

/-- `UNDEF32_63`. -/
def execUndef32to63 (_type : BitVec 2) (_opcode : BitVec 6) (_operands : BitVec 24) (s : State) : Result :=
  opUndefined s

end Sys2Proof.Machine
end

