-- ==== Sys2Proof/Machine/Dispatch.lean ====
section
/-! DEFINITION. One arm per constructor of Instr, each one call of that instruction's meaning (40_cycle R88). -/

namespace Sys2Proof.Machine

def exec (i : Instr) (s : State) : Host.Outcome State Fault Refusal :=
  match i with
  | .rdT0 reg1 reg2 reg3 address => Sys2Proof.Machine.execRdT0 reg1 reg2 reg3 address s
  | .rdT1 reg1 reg2 address => Sys2Proof.Machine.execRdT1 reg1 reg2 address s
  | .rdT2 address => Sys2Proof.Machine.execRdT2 address s
  | .rdT3 reg1 reg2 address => Sys2Proof.Machine.execRdT3 reg1 reg2 address s
  | .wrT0 reg1 reg2 reg3 address => Sys2Proof.Machine.execWrT0 reg1 reg2 reg3 address s
  | .wrT1 reg1 reg2 address => Sys2Proof.Machine.execWrT1 reg1 reg2 address s
  | .wrT2 address => Sys2Proof.Machine.execWrT2 address s
  | .wrT3 reg1 reg2 address => Sys2Proof.Machine.execWrT3 reg1 reg2 address s
  | .stT0 reg1 reg2 reg3 address => Sys2Proof.Machine.execStT0 reg1 reg2 reg3 address s
  | .stT1 reg1 reg2 address => Sys2Proof.Machine.execStT1 reg1 reg2 address s
  | .stT2 address => Sys2Proof.Machine.execStT2 address s
  | .stT3 reg1 reg2 address => Sys2Proof.Machine.execStT3 reg1 reg2 address s
  | .lwT0 reg1 reg2 reg3 address => Sys2Proof.Machine.execLwT0 reg1 reg2 reg3 address s
  | .lwT1 reg1 reg2 address => Sys2Proof.Machine.execLwT1 reg1 reg2 address s
  | .lwT2 address => Sys2Proof.Machine.execLwT2 address s
  | .lwT3 reg1 reg2 address => Sys2Proof.Machine.execLwT3 reg1 reg2 address s
  | .movT0 reg1 reg2 reg3 address => Sys2Proof.Machine.execMovT0 reg1 reg2 reg3 address s
  | .movT1 reg1 reg2 address => Sys2Proof.Machine.execMovT1 reg1 reg2 address s
  | .movT2 address => Sys2Proof.Machine.execMovT2 address s
  | .movT3 reg1 reg2 address => Sys2Proof.Machine.execMovT3 reg1 reg2 address s
  | .addT0 reg1 reg2 reg3 address => Sys2Proof.Machine.execAddT0 reg1 reg2 reg3 address s
  | .addT1 reg1 reg2 address => Sys2Proof.Machine.execAddT1 reg1 reg2 address s
  | .addT2 address => Sys2Proof.Machine.execAddT2 address s
  | .addT3 reg1 reg2 address => Sys2Proof.Machine.execAddT3 reg1 reg2 address s
  | .subT0 reg1 reg2 reg3 address => Sys2Proof.Machine.execSubT0 reg1 reg2 reg3 address s
  | .subT1 reg1 reg2 address => Sys2Proof.Machine.execSubT1 reg1 reg2 address s
  | .subT2 address => Sys2Proof.Machine.execSubT2 address s
  | .subT3 reg1 reg2 address => Sys2Proof.Machine.execSubT3 reg1 reg2 address s
  | .mulT0 reg1 reg2 reg3 address => Sys2Proof.Machine.execMulT0 reg1 reg2 reg3 address s
  | .mulT1 reg1 reg2 address => Sys2Proof.Machine.execMulT1 reg1 reg2 address s
  | .mulT2 address => Sys2Proof.Machine.execMulT2 address s
  | .mulT3 reg1 reg2 address => Sys2Proof.Machine.execMulT3 reg1 reg2 address s
  | .divT0 reg1 reg2 reg3 address => Sys2Proof.Machine.execDivT0 reg1 reg2 reg3 address s
  | .divT1 reg1 reg2 address => Sys2Proof.Machine.execDivT1 reg1 reg2 address s
  | .divT2 address => Sys2Proof.Machine.execDivT2 address s
  | .divT3 reg1 reg2 address => Sys2Proof.Machine.execDivT3 reg1 reg2 address s
  | .andT0 reg1 reg2 reg3 address => Sys2Proof.Machine.execAndT0 reg1 reg2 reg3 address s
  | .andT1 reg1 reg2 address => Sys2Proof.Machine.execAndT1 reg1 reg2 address s
  | .andT2 address => Sys2Proof.Machine.execAndT2 address s
  | .andT3 reg1 reg2 address => Sys2Proof.Machine.execAndT3 reg1 reg2 address s
  | .orT0 reg1 reg2 reg3 address => Sys2Proof.Machine.execOrT0 reg1 reg2 reg3 address s
  | .orT1 reg1 reg2 address => Sys2Proof.Machine.execOrT1 reg1 reg2 address s
  | .orT2 address => Sys2Proof.Machine.execOrT2 address s
  | .orT3 reg1 reg2 address => Sys2Proof.Machine.execOrT3 reg1 reg2 address s
  | .moviT0 reg1 reg2 reg3 address => Sys2Proof.Machine.execMoviT0 reg1 reg2 reg3 address s
  | .moviT1 reg1 reg2 address => Sys2Proof.Machine.execMoviT1 reg1 reg2 address s
  | .moviT2 address => Sys2Proof.Machine.execMoviT2 address s
  | .moviT3 reg1 reg2 address => Sys2Proof.Machine.execMoviT3 reg1 reg2 address s
  | .addiT0 reg1 reg2 reg3 address => Sys2Proof.Machine.execAddiT0 reg1 reg2 reg3 address s
  | .addiT1 reg1 reg2 address => Sys2Proof.Machine.execAddiT1 reg1 reg2 address s
  | .addiT2 address => Sys2Proof.Machine.execAddiT2 address s
  | .addiT3 reg1 reg2 address => Sys2Proof.Machine.execAddiT3 reg1 reg2 address s
  | .muliT0 reg1 reg2 reg3 address => Sys2Proof.Machine.execMuliT0 reg1 reg2 reg3 address s
  | .muliT1 reg1 reg2 address => Sys2Proof.Machine.execMuliT1 reg1 reg2 address s
  | .muliT2 address => Sys2Proof.Machine.execMuliT2 address s
  | .muliT3 reg1 reg2 address => Sys2Proof.Machine.execMuliT3 reg1 reg2 address s
  | .diviT0 reg1 reg2 reg3 address => Sys2Proof.Machine.execDiviT0 reg1 reg2 reg3 address s
  | .diviT1 reg1 reg2 address => Sys2Proof.Machine.execDiviT1 reg1 reg2 address s
  | .diviT2 address => Sys2Proof.Machine.execDiviT2 address s
  | .diviT3 reg1 reg2 address => Sys2Proof.Machine.execDiviT3 reg1 reg2 address s
  | .ldiT0 reg1 reg2 reg3 address => Sys2Proof.Machine.execLdiT0 reg1 reg2 reg3 address s
  | .ldiT1 reg1 reg2 address => Sys2Proof.Machine.execLdiT1 reg1 reg2 address s
  | .ldiT2 address => Sys2Proof.Machine.execLdiT2 address s
  | .ldiT3 reg1 reg2 address => Sys2Proof.Machine.execLdiT3 reg1 reg2 address s
  | .sltT0 reg1 reg2 reg3 address => Sys2Proof.Machine.execSltT0 reg1 reg2 reg3 address s
  | .sltT1 reg1 reg2 address => Sys2Proof.Machine.execSltT1 reg1 reg2 address s
  | .sltT2 address => Sys2Proof.Machine.execSltT2 address s
  | .sltT3 reg1 reg2 address => Sys2Proof.Machine.execSltT3 reg1 reg2 address s
  | .sltiT0 reg1 reg2 reg3 address => Sys2Proof.Machine.execSltiT0 reg1 reg2 reg3 address s
  | .sltiT1 reg1 reg2 address => Sys2Proof.Machine.execSltiT1 reg1 reg2 address s
  | .sltiT2 address => Sys2Proof.Machine.execSltiT2 address s
  | .sltiT3 reg1 reg2 address => Sys2Proof.Machine.execSltiT3 reg1 reg2 address s
  | .hltT0 reg1 reg2 reg3 address => Sys2Proof.Machine.execHltT0 reg1 reg2 reg3 address s
  | .hltT1 reg1 reg2 address => Sys2Proof.Machine.execHltT1 reg1 reg2 address s
  | .hltT2 address => Sys2Proof.Machine.execHltT2 address s
  | .hltT3 reg1 reg2 address => Sys2Proof.Machine.execHltT3 reg1 reg2 address s
  | .nopT0 reg1 reg2 reg3 address => Sys2Proof.Machine.execNopT0 reg1 reg2 reg3 address s
  | .nopT1 reg1 reg2 address => Sys2Proof.Machine.execNopT1 reg1 reg2 address s
  | .nopT2 address => Sys2Proof.Machine.execNopT2 address s
  | .nopT3 reg1 reg2 address => Sys2Proof.Machine.execNopT3 reg1 reg2 address s
  | .jmpT0 reg1 reg2 reg3 address => Sys2Proof.Machine.execJmpT0 reg1 reg2 reg3 address s
  | .jmpT1 reg1 reg2 address => Sys2Proof.Machine.execJmpT1 reg1 reg2 address s
  | .jmpT2 address => Sys2Proof.Machine.execJmpT2 address s
  | .jmpT3 reg1 reg2 address => Sys2Proof.Machine.execJmpT3 reg1 reg2 address s
  | .beqT0 reg1 reg2 reg3 address => Sys2Proof.Machine.execBeqT0 reg1 reg2 reg3 address s
  | .beqT1 reg1 reg2 address => Sys2Proof.Machine.execBeqT1 reg1 reg2 address s
  | .beqT2 address => Sys2Proof.Machine.execBeqT2 address s
  | .beqT3 reg1 reg2 address => Sys2Proof.Machine.execBeqT3 reg1 reg2 address s
  | .bneT0 reg1 reg2 reg3 address => Sys2Proof.Machine.execBneT0 reg1 reg2 reg3 address s
  | .bneT1 reg1 reg2 address => Sys2Proof.Machine.execBneT1 reg1 reg2 address s
  | .bneT2 address => Sys2Proof.Machine.execBneT2 address s
  | .bneT3 reg1 reg2 address => Sys2Proof.Machine.execBneT3 reg1 reg2 address s
  | .bezT0 reg1 reg2 reg3 address => Sys2Proof.Machine.execBezT0 reg1 reg2 reg3 address s
  | .bezT1 reg1 reg2 address => Sys2Proof.Machine.execBezT1 reg1 reg2 address s
  | .bezT2 address => Sys2Proof.Machine.execBezT2 address s
  | .bezT3 reg1 reg2 address => Sys2Proof.Machine.execBezT3 reg1 reg2 address s
  | .bnzT0 reg1 reg2 reg3 address => Sys2Proof.Machine.execBnzT0 reg1 reg2 reg3 address s
  | .bnzT1 reg1 reg2 address => Sys2Proof.Machine.execBnzT1 reg1 reg2 address s
  | .bnzT2 address => Sys2Proof.Machine.execBnzT2 address s
  | .bnzT3 reg1 reg2 address => Sys2Proof.Machine.execBnzT3 reg1 reg2 address s
  | .bgzT0 reg1 reg2 reg3 address => Sys2Proof.Machine.execBgzT0 reg1 reg2 reg3 address s
  | .bgzT1 reg1 reg2 address => Sys2Proof.Machine.execBgzT1 reg1 reg2 address s
  | .bgzT2 address => Sys2Proof.Machine.execBgzT2 address s
  | .bgzT3 reg1 reg2 address => Sys2Proof.Machine.execBgzT3 reg1 reg2 address s
  | .blzT0 reg1 reg2 reg3 address => Sys2Proof.Machine.execBlzT0 reg1 reg2 reg3 address s
  | .blzT1 reg1 reg2 address => Sys2Proof.Machine.execBlzT1 reg1 reg2 address s
  | .blzT2 address => Sys2Proof.Machine.execBlzT2 address s
  | .blzT3 reg1 reg2 address => Sys2Proof.Machine.execBlzT3 reg1 reg2 address s
  | .undef27 type operands => Sys2Proof.Machine.execUndef27 type operands s
  | .undef28to31 type opcode operands => Sys2Proof.Machine.execUndef28to31 type opcode operands s
  | .undef32to63 type opcode operands => Sys2Proof.Machine.execUndef32to63 type opcode operands s

end Sys2Proof.Machine
end

