-- ==== Sys2Proof/Machine/Cycle.lean ====
section
/-! DEFINITION. One step: the halt gate, fetch, decode, execute and sequencing (40_cycle R80 to R93). Sequencing is
the last part of every meaning. -/

namespace Sys2Proof.Machine

/-- The instruction register `IR`, an alias of `x[2]` (10_state R23). -/
def State.instrRegister (s : State) : Word := s.readReg Config.instrReg

/-- The fetch write: `x[2] <- signed(w)` (40_cycle R82). -/
def State.loadInstrRegister (s : State) (w : Word) : State := s.writeReg Config.instrReg w

/-- Decode and execute: the word is read back out of `x[2]`, not out of the memory cell (40_cycle R83). -/
def decodeExecute (s : State) : Result := exec (decode s.instrRegister) s

/-- Fetch, decode, execute, in that order (40_cycle R81 to R90, R93). A fatal condition in fetch comes before the
write of `x[2]`, so it changes nothing but the fault register. -/
def fetchDecodeExecute (s : State) : Result :=
  s.attempt (s.fetchCell s.pc.toInt) fun w => decodeExecute (s.loadInstrRegister w)

/-- `runCycle()`: a running machine makes one step; a halted or faulted one does nothing (40_cycle R80, 60_exceptions
R156, 70_reset R177; DEDUCED, safe, log 5). A state whose launch parameters violate 70_reset R176 is refused (DEDUCED,
safe, log 6). -/
def runCycle (s : State) : Result :=
  if s.launchPremises then
    if s.running then fetchDecodeExecute s else .next s
  else .refused .launchViolated

/-- Where a one-instruction program is placed for the next step: the cell at `pc`, or cell 0 where `pc` is no index
that a launch could run from (DESIGN CHOICE, safe, log 8). -/
def placementIndex (s : State) : Nat :=
  if 0 ≤ s.pc.toInt ∧ s.pc.toInt ≤ 2147483645 then s.pc.toNat else 0

/-- Stands for the loading of a program from outside (70_reset R172, R173; DESIGN CHOICE, safe, log 8): the word stored where the next
fetch reads, no fault recorded, and `pc`, IC, DMO and MEM_SIZE changed only as far as that fetch needs. -/
def placeInstruction (s : State) (w : Word) : State :=
  let n := placementIndex s
  let ic := if n < s.ic ∧ s.ic < 2147483647 then s.ic else n + 1
  let memSize := if ic < s.memSize ∧ 2 ≤ s.memSize ∧ s.memSize ≤ 2147483647 then s.memSize else ic + 1
  { s with
    pc := BitVec.ofNat 32 n
    ic := ic
    dmo := if s.dmo < memSize then s.dmo else 0
    memSize := memSize
    mem := s.mem.put n w
    fault := none }

end Sys2Proof.Machine
end

