-- ==== Sys2Proof/Machine/Step.lean ====
section
/-! DEFINITION. The step function, and the placing of one instruction for the host's check. -/

namespace Sys2Proof.Machine

/-- One step of the machine, which is one call of `runCycle()` (40_cycle R80, R93; 70_reset R177). -/
def step (s : State) : Host.Outcome State Fault Refusal := runCycle s

/-- `s` with one instruction placed where the next step fetches; every instruction is one 32-bit word (30_encoding
R60), and the bits above `nbits` are 0. -/
def State.withFetchWord (s : State) (nbits w : Nat) : State := placeInstruction s (BitVec.ofNat 32 (w % 2 ^ nbits))

end Sys2Proof.Machine
end

