-- ==== Sys2Proof/Machine/HostPort.lean ====
section
/-! DEFINITION. The scheduler-facing interface (70_reset R177, R178): what the host may do between steps. -/

namespace Sys2Proof.Machine

/-- `getProgramCounter()` (70_reset R177). -/
def State.getProgramCounter (s : State) : Word := s.pc

/-- `setProgramCounter(i)`: any signed 32-bit value; nothing else changes, the fault register included (70_reset
R178, 60_exceptions R156). -/
def State.setProgramCounter (s : State) (i : Word) : State := s.setPc i

/-- `isHalted()`: `pc >= IC`, whatever the fault register holds (70_reset R177). -/
def State.isHalted (s : State) : Bool := decide ((s.ic : Int) ≤ s.pc.toInt)

/-- The fault report (70_reset R177). -/
def State.faultReport (s : State) : Option FatalCondition := s.fault

/-- The host's moves that change the machine; any other host write is unmodelled (70_reset R178, D31;
DEDUCED, unsafe, log 10). -/
inductive HostMove where
  | runCycle
  | setProgramCounter (i : Word)
  deriving DecidableEq, Repr

/-- The machine after one move of the host. -/
def hostMove (m : HostMove) (s : State) : Result :=
  match m with
  | .runCycle => step s
  | .setProgramCounter i => .next (s.setProgramCounter i)

end Sys2Proof.Machine
end

