-- ==== Sys2Proof/Machine/Launch.lean ====
section
/-! DEFINITION. The boot contract: what the excluded loader delivers, the premises on it, and the state of the
machine launched with it (70_reset R170 to R176). -/

namespace Sys2Proof.Machine

/-- The launch parameters (00_scope R7 to R10; 92 "Open parameters"). -/
structure Launch where
  memSize : Nat
  ic : Nat
  dmo : Nat
  /-- MEM0, cell by cell from index 0 -/
  image : List Cell
  hltActive : Bool
  jumpIndirect : Bool
  deriving DecidableEq, Repr

/-- 70_reset R176 (a) to (d). -/
abbrev Launch.premises (l : Launch) : Prop :=
  Config.minMemSize ≤ l.memSize ∧ l.memSize ≤ Config.maxMemSize ∧ l.ic < l.memSize ∧ l.dmo < l.memSize ∧
    l.image.length = l.memSize

/-- The machine of a launch: the reset values of 70_reset R170 with the four things the loader supplies (R173). A
launch that violates R176 (a) to (d) is refused, and so is a legacy mode (00_scope R10, 43_control R141). -/
def State.launch (l : Launch) : Result :=
  if l.hltActive = Config.hltActive ∧ l.jumpIndirect = Config.jumpIndirect then
    if l.premises then
      .next { State.reset with
        ic := l.ic, dmo := l.dmo, memSize := l.memSize, mem := Memory.ofCells 0 l.image }
    else .refused .launchViolated
  else .refused .legacyMode

/-- The cell of a line whose text denotes the integer `n` (70_reset R175). -/
def cellOfInteger (n : Int) : Cell :=
  if -2147483648 ≤ n ∧ n ≤ 4294967295 then .int (BitVec.ofInt 32 n) else .nonInt

/-- What the documented loader builds from the instruction lines and the data lines of a program (70_reset R174): the
boundary marker after the instructions, the end marker after the data, IC = DMO = the boundary's index. -/
def documentedLaunch (instructions data : List Cell) : Launch where
  memSize := instructions.length + data.length + 2
  ic := instructions.length
  dmo := instructions.length
  image := instructions ++ .nonInt :: data ++ [.nonInt]
  hltActive := Config.hltActive
  jumpIndirect := Config.jumpIndirect

end Sys2Proof.Machine
end

