-- ==== Sys2Proof/Safety.lean ====
section
/-! DEFINITION. The terms claims are stated in: the invariant of the machine, what an instruction may change (its
frame), and when an instruction completes. Everything is said through what can be observed: `x[i]`, `pc`, the cell
at an index, the launch parameters and the fault register. -/

namespace Sys2Proof

open Machine

/-- The invariant of a launched machine: the launch premises (70_reset R176 (a) to (c)), the memory in canonical
form, and no cell outside `0 .. MEM_SIZE-1` (R176 (d)). -/
def MachineInv (s : State) : Prop := s.launchPremises ∧ s.mem.wf ∧ ∀ p ∈ s.mem, p.1 < s.memSize

/-- IC, DMO and MEM_SIZE are unchanged (10_state R31). -/
def SameLaunch (s t : State) : Prop := t.ic = s.ic ∧ t.dmo = s.dmo ∧ t.memSize = s.memSize

/-- Every general register is unchanged. -/
def SameRegs (s t : State) : Prop := ∀ r, t.readReg r = s.readReg r

/-- Every general register but `d` is unchanged. -/
def SameRegsBut (d : RegIdx) (s t : State) : Prop := ∀ r, r ≠ d → t.readReg r = s.readReg r

/-- Every cell of memory is unchanged. -/
def SameCells (s t : State) : Prop := ∀ n, t.cellAt n = s.cellAt n

/-- Every cell of memory but the one at `a` is unchanged. -/
def SameCellsBut (a : Nat) (s t : State) : Prop := ∀ n, n ≠ a → t.cellAt n = s.cellAt n

/-- The instruction wrote `v` to register `d`, advanced `pc` by 1, and changed nothing else. -/
def WroteReg (d : RegIdx) (v : Word) (s t : State) : Prop :=
  t.readReg d = v ∧ SameRegsBut d s t ∧ SameCells s t ∧ t.pc = s.pc + 1#32 ∧ t.fault = s.fault ∧ SameLaunch s t

/-- The instruction wrote the integer `v` to the cell at `a`, advanced `pc` by 1, and changed nothing else. -/
def WroteCell (a : Nat) (v : Word) (s t : State) : Prop :=
  t.cellAt a = .int v ∧ SameCellsBut a s t ∧ SameRegs s t ∧ t.pc = s.pc + 1#32 ∧ t.fault = s.fault ∧ SameLaunch s t

/-- The instruction wrote `v` to `pc` and changed nothing else. -/
def WentTo (v : Word) (s t : State) : Prop :=
  t.pc = v ∧ SameRegs s t ∧ SameCells s t ∧ t.fault = s.fault ∧ SameLaunch s t

/-- The fatal condition `f` was recorded and nothing else changed, `pc` included (60_exceptions R156). -/
def RaisedOnly (f : FatalCondition) (s t : State) : Prop :=
  t.fault = some f ∧ t.pc = s.pc ∧ SameRegs s t ∧ SameCells s t ∧ SameLaunch s t

/-- Executing `i` in `s` answers a next state, and `Q` holds of the two. -/
def Completes (i : Instr) (s : State) (Q : State → State → Prop) : Prop := ∃ t, exec i s = .next t ∧ Q s t

/-- `m` is `wrap32 n` as 00_scope R11 defines it: the integer in -2^31 .. 2^31-1 that is `n` modulo 2^32. -/
def IsWrap32 (n m : Int) : Prop := -2147483648 ≤ m ∧ m < 2147483648 ∧ (4294967296 : Int) ∣ m - n

/-- The cell at `EA(a)` is in bounds and holds the integer `v`. -/
def HoldsData (s : State) (a : Nat) (v : Word) : Prop :=
  s.effectiveAddress a < s.memSize ∧ s.cellAt (s.effectiveAddress a) = .int v

/-- The cell at `EA(a)` is in bounds and is no integer. -/
def HoldsMarker (s : State) (a : Nat) : Prop :=
  s.effectiveAddress a < s.memSize ∧ s.cellAt (s.effectiveAddress a) = .nonInt

/-- `EA(a)` is in bounds, whatever its cell holds. -/
def InBounds (s : State) (a : Nat) : Prop := s.effectiveAddress a < s.memSize

/-- `EA(a)` is out of bounds. -/
def OutOfBounds (s : State) (a : Nat) : Prop := s.memSize ≤ s.effectiveAddress a

/-- `i` reads the cell at `EA(a)`: an integer `v` there completes as `Q v`, a `NonInt` cell raises
`DecodeError(DATA_NONINT, EA(a))`, an index out of bounds raises `MemoryFault(EA(a))`, and then nothing else
changes (20_memory R47, R48). -/
def ReadsData (i : Instr) (s : State) (a : Nat) (Q : Word → State → State → Prop) : Prop :=
  (∀ v, HoldsData s a v → Completes i s (Q v)) ∧
  (HoldsMarker s a → Completes i s (RaisedOnly (.decodeError .dataNonInt (s.effectiveAddress a)))) ∧
  (OutOfBounds s a → Completes i s (RaisedOnly (.memoryFault (s.effectiveAddress a))))

/-- The word of `i` carries this Type and this opcode (30_encoding R61). -/
def HasHeader (i : Instr) (type : BitVec 2) (opcode : BitVec 6) : Prop :=
  typeOf (encode i) = type ∧ opcodeOf (encode i) = opcode

/-- `i` raises `DecodeError(ARITY, pc)` in every state and changes nothing else (40_cycle R86). -/
def RaisesArity (i : Instr) : Prop := ∀ s, Completes i s (RaisedOnly (.decodeError .arity s.pc.toInt))

/-- An opcode that executes in Types 0, 1 and 3 as `P instruction reg1 reg2 address`, and raises ARITY in Type 2
(30_encoding R68). -/
def InTypes013 (opcode : BitVec 6) (t0 : RegIdx → RegIdx → RegIdx → BitVec 4 → Instr)
    (t1 : RegIdx → RegIdx → BitVec 16 → Instr) (t2 : BitVec 24 → Instr) (t3 : RegIdx → RegIdx → BitVec 16 → Instr)
    (P : Instr → RegIdx → RegIdx → Nat → Prop) : Prop :=
  (∀ r1 r2 r3 a, HasHeader (t0 r1 r2 r3 a) 0 opcode ∧ P (t0 r1 r2 r3 a) r1 r2 a.toNat) ∧
  (∀ r1 r2 a, HasHeader (t1 r1 r2 a) 1 opcode ∧ P (t1 r1 r2 a) r1 r2 a.toNat) ∧
  (∀ a, HasHeader (t2 a) 2 opcode ∧ RaisesArity (t2 a)) ∧
  (∀ r1 r2 a, HasHeader (t3 r1 r2 a) 3 opcode ∧ P (t3 r1 r2 a) r1 r2 a.toNat)

/-- An opcode that executes in Type 0 only, as `P instruction reg1 reg2 reg3`, and raises ARITY in Types 1, 2 and 3
(30_encoding R68). -/
def InType0 (opcode : BitVec 6) (t0 : RegIdx → RegIdx → RegIdx → BitVec 4 → Instr)
    (t1 : RegIdx → RegIdx → BitVec 16 → Instr) (t2 : BitVec 24 → Instr) (t3 : RegIdx → RegIdx → BitVec 16 → Instr)
    (P : Instr → RegIdx → RegIdx → RegIdx → Prop) : Prop :=
  (∀ r1 r2 r3 a, HasHeader (t0 r1 r2 r3 a) 0 opcode ∧ P (t0 r1 r2 r3 a) r1 r2 r3) ∧
  (∀ r1 r2 a, HasHeader (t1 r1 r2 a) 1 opcode ∧ RaisesArity (t1 r1 r2 a)) ∧
  (∀ a, HasHeader (t2 a) 2 opcode ∧ RaisesArity (t2 a)) ∧
  (∀ r1 r2 a, HasHeader (t3 r1 r2 a) 3 opcode ∧ RaisesArity (t3 r1 r2 a))

/-- An opcode that executes in every Type, as `P instruction address` (30_encoding R68). -/
def InAllTypes (opcode : BitVec 6) (t0 : RegIdx → RegIdx → RegIdx → BitVec 4 → Instr)
    (t1 : RegIdx → RegIdx → BitVec 16 → Instr) (t2 : BitVec 24 → Instr) (t3 : RegIdx → RegIdx → BitVec 16 → Instr)
    (P : Instr → Nat → Prop) : Prop :=
  (∀ r1 r2 r3 a, HasHeader (t0 r1 r2 r3 a) 0 opcode ∧ P (t0 r1 r2 r3 a) a.toNat) ∧
  (∀ r1 r2 a, HasHeader (t1 r1 r2 a) 1 opcode ∧ P (t1 r1 r2 a) a.toNat) ∧
  (∀ a, HasHeader (t2 a) 2 opcode ∧ P (t2 a) a.toNat) ∧
  (∀ r1 r2 a, HasHeader (t3 r1 r2 a) 3 opcode ∧ P (t3 r1 r2 a) a.toNat)

/-- The members an Operand List may have (40_cycle R84). -/
inductive Member where
  | reg1 | reg2 | reg3 | address
  deriving DecidableEq, Repr

/-- The "needs" column of the opcode map (30_encoding R66); opcodes 27 to 63 need nothing (40_cycle R86). -/
def needsOf (opcode : Nat) : List Member :=
  if opcode ≤ 3 then [.reg1, .reg2, .address]
  else if opcode = 4 then [.reg1, .reg2]
  else if opcode ≤ 10 then [.reg1, .reg2, .reg3]
  else if opcode ≤ 15 then [.reg2, .address]
  else if opcode = 16 then [.reg1, .reg2, .reg3]
  else if opcode = 17 then [.reg1, .reg2, .address]
  else if opcode ≤ 19 then []
  else if opcode = 20 then [.address]
  else if opcode ≤ 22 then [.reg1, .reg2, .address]
  else if opcode ≤ 26 then [.reg1, .address]
  else []

/-- The operands a Type supplies (30_encoding R68). -/
def suppliesOf (type : Nat) : List Member :=
  if type = 0 then [.reg1, .reg2, .reg3, .address]
  else if type = 2 then [.address]
  else [.reg1, .reg2, .address]

/-- The Type does not supply every operand the opcode needs (40_cycle R86). -/
def lacksOperand (opcode type : Nat) : Bool := (needsOf opcode).any fun m => !(suppliesOf type).contains m

/-- The general register an instruction writes where it does not raise: `reg1` of `RD` and `MOV`, `reg2` of `WR` and
`ST` with the sentinel 0, of `LW`, of opcodes 11 to 15 and of `SLTI`, `reg3` of the three-register opcodes; none of the
other instructions writes one (41_move R100 to R109, 42_alu R110 to R118). -/
def destinationOf (i : Instr) : Option RegIdx :=
  let opcode := i.operandList.opcode.toNat
  let D := i.operandList.operands
  if opcode = 0 ∨ opcode = 4 then D.reg1
  else if opcode = 1 ∨ opcode = 2 then (if D.address = some 0 then D.reg2 else none)
  else if opcode = 3 ∨ (11 ≤ opcode ∧ opcode ≤ 15) ∨ opcode = 17 then D.reg2
  else if (5 ≤ opcode ∧ opcode ≤ 10) ∨ opcode = 16 then D.reg3
  else none

/-- The cells that change from `s` to `t` are those that `i` may store to in `s`: `WR` and `ST` with an address operand
`a ≠ 0` store to the one cell at `EA(a)`; with the sentinel, in Type 2 (which raises), and for every other opcode, no
cell changes (20_memory R42, 41_move R101, R102). -/
def StoresOnlyAtItsAddress (i : Instr) (s t : State) : Prop :=
  (∀ a, i.operandList.opcode = 1 ∨ i.operandList.opcode = 2 → i.operandList.operands.address = some a → a ≠ 0 →
    SameCellsBut (s.effectiveAddress a) s t) ∧
  ((i.operandList.opcode ≠ 1 ∧ i.operandList.opcode ≠ 2) ∨ i.operandList.type = 2 ∨
    i.operandList.operands.address = some 0 → SameCells s t)

/-- `s` is about to run the word `w`: a launched, running machine whose `pc` is the index of a cell that holds `w`. -/
def AboutToRun (s : State) (w : Word) : Prop :=
  s.launchPremises ∧ s.running ∧ 0 ≤ s.pc.toInt ∧ s.cellAt s.pc.toNat = .int w

end Sys2Proof
end

