-- ==== Sys2Proof/Certificates/Slice0/Obligations.lean ====
section
/-! DEFINITION. The statements for the provers. Each docstring names the rule or the section of spec/ it
formalises; the words of a claim (`Completes`, `WroteReg`, `RaisedOnly`, ...) are defined in Sys2Proof.Safety.
Statements about `exec` hold for every state; what they say of `pc` where `pc + 1` or IC does not fit 32 bits, in
states that no step of a launched machine reaches, is the model's choice (log 7). -/

open Sys2Proof Sys2Proof.Machine

/-! ## Encoding -/

/-- Some words of 95_test_vectors section 2.1 to 2.4, one or more for each family, decode to the instruction listed. -/
def Obligations.ListedWordsDecodeAsListed : Prop :=
  decode 0x05123000 = .addT0 1 2 3 0 ∧ decode 0x1A5A3C71 = .blzT0 5 10 3 12 ∧
  decode 0x4C010003 = .addiT1 0 1 3 ∧ decode 0x94000002 = .jmpT2 2 ∧ decode 0xC1600003 = .wrT3 6 0 3 ∧
  decode 0x80FFFFFF = .rdT2 16777215 ∧ decode 0xFF123456 = .undef32to63 3 63 0x123456

/-- E1, T8 and the round trip of 30_encoding section 3: decoding the word of any well-formed instruction gives the
instruction back, every operand at every value its field admits. -/
def Obligations.DecodeOfEncodeIsTheInstruction : Prop :=
  ∀ i : Instr, i.WellFormed → decode (encode i) = i

/-- The four formulas of 30_encoding section 3 (encode): each field at its place, the spare bits of Type 0 zero. -/
def Obligations.EncodedWordIsTheSumOfItsFields : Prop :=
  ∀ (op : BitVec 6) (r1 r2 r3 : RegIdx) (a : BitVec 4) (b : BitVec 16) (c : BitVec 24),
    (encode0 op r1 r2 r3 a).toNat =
      0 * 2 ^ 30 + op.toNat * 2 ^ 24 + r1.toNat * 2 ^ 20 + r2.toNat * 2 ^ 16 + r3.toNat * 2 ^ 12 + a.toNat * 2 ^ 8 ∧
    (encode1 op r1 r2 b).toNat = 1 * 2 ^ 30 + op.toNat * 2 ^ 24 + r1.toNat * 2 ^ 20 + r2.toNat * 2 ^ 16 + b.toNat ∧
    (encode2 op c).toNat = 2 * 2 ^ 30 + op.toNat * 2 ^ 24 + c.toNat ∧
    (encode3 op r1 r2 b).toNat = 3 * 2 ^ 30 + op.toNat * 2 ^ 24 + r1.toNat * 2 ^ 20 + r2.toNat * 2 ^ 16 + b.toNat

/-- 40_cycle R84: the Operand List behind the decoded instruction has each member at the bit positions the rule
gives, as numbers cut out of the word's value, and lacks the members that the Type does not supply. -/
def Obligations.DecodeCutsTheFieldsAtTheirBitPositions : Prop :=
  ∀ w : Word, ∀ D : OperandList, (decode w).operandList = D →
    D.type.toNat = w.toNat / 2 ^ 30 ∧ D.opcode.toNat = w.toNat / 2 ^ 24 % 64 ∧
    (D.type = 0 → D.operands.reg1.map BitVec.toNat = some (w.toNat / 2 ^ 20 % 16) ∧
      D.operands.reg2.map BitVec.toNat = some (w.toNat / 2 ^ 16 % 16) ∧
      D.operands.reg3.map BitVec.toNat = some (w.toNat / 2 ^ 12 % 16) ∧
      D.operands.address = some (w.toNat / 2 ^ 8 % 16)) ∧
    (D.type = 1 ∨ D.type = 3 → D.operands.reg1.map BitVec.toNat = some (w.toNat / 2 ^ 20 % 16) ∧
      D.operands.reg2.map BitVec.toNat = some (w.toNat / 2 ^ 16 % 16) ∧
      D.operands.reg3 = none ∧ D.operands.address = some (w.toNat % 2 ^ 16)) ∧
    (D.type = 2 → D.operands.reg1 = none ∧ D.operands.reg2 = none ∧ D.operands.reg3 = none ∧
      D.operands.address = some (w.toNat % 2 ^ 24))

/-- The converse round trip of 30_encoding section 3, which the spec marks as derived: every word decodes to a
well-formed instruction, and encoding that gives the word back, but for the spare bits of a Type 0 word of a defined
opcode, which are cleared. -/
def Obligations.EncodeOfDecodeIsTheWordUpToSpareBits : Prop :=
  ∀ w : Word, (decode w).WellFormed ∧
    (typeOf w ≠ 0 ∨ w.extractLsb' 0 8 = 0 → encode (decode w) = w) ∧
    (typeOf w = 0 → (opcodeOf w).toNat < 27 → encode (decode w) = w &&& 0xFFFFFF00)

/-- 30_encoding R63: two Type 0 words that differ in `w[7:0]` only have the same Operand List and execute the same
way, and the encoder writes those bits as 0. -/
def Obligations.SpareBitsOfType0AreIgnored : Prop :=
  (∀ w w' : Word, typeOf w = 0 → w.extractLsb' 8 24 = w'.extractLsb' 8 24 →
    (decode w').operandList = (decode w).operandList ∧ ∀ s, exec (decode w') s = exec (decode w) s) ∧
  (∀ op r1 r2 r3 a, (encode0 op r1 r2 r3 a).extractLsb' 0 8 = 0)

/-- 40_cycle R86 with the matrix of 30_encoding section 4: a word whose Type lacks an operand its opcode needs raises
`DecodeError(ARITY, pc)` whatever the registers and memory hold, and no other word ever raises it; 38 of the 108 pairs
of a defined opcode with a Type are such. -/
def Obligations.ArityFaultExactlyWhereAnOperandIsMissing : Prop :=
  (∀ (w : Word) (s : State),
    (lacksOperand (opcodeOf w).toNat (typeOf w).toNat = true →
      Completes (decode w) s (RaisedOnly (.decodeError .arity s.pc.toInt))) ∧
    (lacksOperand (opcodeOf w).toNat (typeOf w).toNat = false → s.fault = none →
      Completes (decode w) s fun _ t => ∀ addr, t.fault ≠ some (.decodeError .arity addr))) ∧
  (((List.range 27).product (List.range 4)).filter fun p => lacksOperand p.1 p.2).length = 38

/-! ## Reset and launch -/

/-- 10_state R21, R27 and 70_reset section 1: registers, `pc` and the fault register at reset, and in the machine of
every accepted launch, which holds what the loader supplied. -/
def Obligations.ResetAndLaunchValues : Prop :=
  (∀ r, State.reset.readReg r = 0) ∧ State.reset.pc = 0 ∧ State.reset.fault = none ∧
  ∀ l t, State.launch l = .next t →
    (∀ r, t.readReg r = 0) ∧ t.pc = 0 ∧ t.fault = none ∧ t.ic = l.ic ∧ t.dmo = l.dmo ∧ t.memSize = l.memSize ∧
    ∀ n, t.cellAt n = l.image.getD n .nonInt

/-- The invariant holds of the state after reset. MEM_SIZE, IC and DMO there are the model's choice (log 1). -/
def Obligations.ResetStateMeetsTheInvariant : Prop := MachineInv State.reset

/-- 70_reset section 2 (R176, which the spec marks as derived) and 43_control's legacy rule: a launch is accepted
exactly under the premises and with both legacy parameters at their defaults, and the launched machine meets the
invariant; any other launch is refused. -/
def Obligations.LaunchIsAcceptedExactlyUnderItsPremises : Prop :=
  ∀ l, (l.hltActive = true ∧ l.jumpIndirect = true ∧ l.premises → ∃ t, State.launch l = .next t ∧ MachineInv t) ∧
    (l.hltActive = true ∧ l.jumpIndirect = true ∧ ¬ l.premises → State.launch l = .refused .launchViolated) ∧
    (¬ (l.hltActive = true ∧ l.jumpIndirect = true) → State.launch l = .refused .legacyMode)

/-- 70_reset section 2, the documented loader: IC = DMO = the number of instruction lines, the two marker cells, data
line `j` (1-based) reached by address operand `j`, and MEM_SIZE = n + k + 2. -/
def Obligations.DocumentedLoaderBuildsTheDescribedImage : Prop :=
  ∀ ins data : List Cell, ins.length + data.length + 2 ≤ 2147483647 →
    ∃ t, State.launch (documentedLaunch ins data) = .next t ∧
      t.ic = ins.length ∧ t.dmo = ins.length ∧ t.memSize = ins.length + data.length + 2 ∧
      t.cellAt ins.length = .nonInt ∧ t.cellAt (ins.length + data.length + 1) = .nonInt ∧
      (∀ j c, ins[j]? = some c → t.cellAt j = c) ∧
      (∀ j c, data[j]? = some c → t.cellAt (t.effectiveAddress (j + 1)) = c)

/-! ## The step -/

/-- 40_cycle R82: a successful fetch writes the word to `x[2]` and nothing else, before decode and execute, and the
step is the execution of the decoded instruction in that state. -/
def Obligations.StepExecutesTheFetchedInstruction : Prop :=
  (∀ s w, AboutToRun s w → step s = exec (decode w) (s.loadInstrRegister w)) ∧
  (∀ s i, i.WellFormed → AboutToRun s (encode i) → step s = exec i (s.loadInstrRegister (encode i))) ∧
  (∀ s w, ∀ t, s.loadInstrRegister w = t → t.readReg 2 = w ∧ SameRegsBut 2 s t ∧ SameCells s t ∧ t.pc = s.pc ∧
    t.fault = s.fault ∧ SameLaunch s t)

/-- 40_cycle section 2: a fetch out of bounds raises `MemoryFault(pc)`, a fetch of a `NonInt` cell raises
`DecodeError(FETCH_NONINT, pc)`, and then nothing else is written, `x[2]` included; in a running launched machine
the upper bound cannot fail, which the spec marks as derived. -/
def Obligations.FetchFaultWritesNothingElse : Prop :=
  (∀ s : State, s.pc.toInt < 0 ∨ (s.memSize : Int) ≤ s.pc.toInt →
    ∃ t, fetchDecodeExecute s = .next t ∧ RaisedOnly (.memoryFault s.pc.toInt) s t) ∧
  (∀ s : State, 0 ≤ s.pc.toInt → s.pc.toInt < s.memSize → s.cellAt s.pc.toNat = .nonInt →
    ∃ t, fetchDecodeExecute s = .next t ∧ RaisedOnly (.decodeError .fetchNonInt s.pc.toInt) s t) ∧
  (∀ s : State, s.launchPremises → s.running → s.pc.toInt < s.memSize ∧ step s = fetchDecodeExecute s)

/-- 40_cycle section 1 and 70_reset section 3: a halted or faulted machine is left as it is by `runCycle()` (that
this is a next state and no stop is the model's reading, log 5), and a state that violates the launch premises is
refused (log 6). -/
def Obligations.StepOutsideRunningDoesNothing : Prop :=
  ∀ s : State, (s.launchPremises → ¬ s.running → step s = .next s) ∧
    (¬ s.launchPremises → step s = .refused .launchViolated)

/-- 10_state R34: exactly one of running, halted and faulted holds, and `isHalted()` is `pc >= IC`. -/
def Obligations.EveryStateIsRunningHaltedOrFaulted : Prop :=
  ∀ s : State, (s.running ∨ s.halted ∨ s.faulted) ∧ ¬ (s.running ∧ s.halted) ∧ ¬ (s.running ∧ s.faulted) ∧
    ¬ (s.halted ∧ s.faulted) ∧ (s.isHalted = true ↔ (s.ic : Int) ≤ s.pc.toInt)

/-- No instruction stops the model: each one has a next state from every state, and so has every step from a state
that meets the launch premises. A fatal condition is a next state (40_cycle sections 4 and 6, log 4), and so is the
unchanged state of a halted or faulted machine, which is the model's reading (40_cycle section 1, 70_reset section 3,
log 5). -/
def Obligations.EveryInstructionAndStepAnswersANextState : Prop :=
  (∀ i s, ∃ t, exec i s = .next t) ∧ (∀ s : State, s.launchPremises → ∃ t, step s = .next t)

/-- 10_state section 2 (R29, which the spec marks as derived): in a running launched machine the sequential advance
does not overflow. -/
def Obligations.SequentialAdvanceDoesNotOverflow : Prop :=
  ∀ s : State, s.launchPremises → s.running → (s.pc + 1#32).toInt = s.pc.toInt + 1 ∧ s.pc.toInt + 1 ≤ s.ic

/-! ## Invariants and whole-machine rules -/

/-- The invariant of a launched machine is kept by every step, from every state that meets it. -/
def Obligations.EveryStepKeepsTheInvariant : Prop :=
  ∀ s t, MachineInv s → step s = .next t → MachineInv t

/-- 10_state section 4 and property T3: IC, DMO and MEM_SIZE are changed by no instruction, by no step and by no move
of the host. -/
def Obligations.LaunchParametersNeverChange : Prop :=
  (∀ i s t, exec i s = .next t → SameLaunch s t) ∧ (∀ m s t, hostMove m s = .next t → SameLaunch s t)

/-- 40_cycle R89: every instruction makes at most one write, to its destination register, or to the cell at the
effective address of its address operand, or to `pc`, and an instruction that raises makes none; a source that is also
the destination is read before the write. -/
def Obligations.EveryInstructionMakesAtMostOneWrite : Prop :=
  (∀ i s t, exec i s = .next t →
    ((∃ d v, destinationOf i = some d ∧ WroteReg d v s t) ∨
      (∃ r1 a, (i.operandList.opcode = 1 ∨ i.operandList.opcode = 2) ∧ i.operandList.operands.reg1 = some r1 ∧
        i.operandList.operands.address = some a ∧ a ≠ 0 ∧ WroteCell (s.effectiveAddress a) (s.readReg r1) s t) ∨
      (∃ v, WentTo v s t) ∨ (∃ f, RaisedOnly f s t)) ∧
    StoresOnlyAtItsAddress i s t) ∧
  (∀ i s t, s.fault = none → exec i s = .next t → t.faulted → ∃ f, RaisedOnly f s t) ∧
  (∀ r a s, Completes (.addT0 r r r a) s (WroteReg r (addWord (s.readReg r) (s.readReg r))))

/-- Property T2 of 95_test_vectors section 4: a step changes at most `x[2]`, one further register or one cell, `pc`
and the fault register. The further register is the destination of the fetched instruction, the cell is the one at the
effective address of a `WR` or `ST`; a step that fetches nothing changes neither. -/
def Obligations.StepChangesAtMostOneFurtherRegisterOrCell : Prop :=
  ∀ s t, step s = .next t → SameLaunch s t ∧ (SameRegsBut 2 s t ∨ SameCells s t) ∧
    (∀ w, AboutToRun s w →
      (∀ r, r ≠ 2 → destinationOf (decode w) ≠ some r → t.readReg r = s.readReg r) ∧
      StoresOnlyAtItsAddress (decode w) s t) ∧
    ((∀ w, ¬ AboutToRun s w) → SameRegs s t ∧ SameCells s t)

/-- 20_memory section 9 (R55) and property T5, which the spec marks as derived: no instruction and no step changes a
cell at an index up to DMO; with IC = DMO these are all the instruction cells and the boundary. -/
def Obligations.NoStoreReachesACellUpToTheDataBase : Prop :=
  (∀ i s t, exec i s = .next t → ∀ n, n ≤ s.dmo → t.cellAt n = s.cellAt n) ∧
  (∀ s t, step s = .next t → ∀ n, n ≤ s.dmo → t.cellAt n = s.cellAt n)

/-- 60_exceptions R156: after a fatal condition `pc` is at the faulting instruction, no cell and no register but
`x[2]` has changed, `x[2]` holds the faulting word where fetch had completed and its old value where fetch raised, no
step exists, and neither the core nor the host clears the fault register. -/
def Obligations.FatalConditionLeavesAPreciseTerminalState : Prop :=
  ∀ s t : State, s.launchPremises → s.running → step s = .next t → t.faulted →
    t.pc = s.pc ∧ SameCells s t ∧ SameRegsBut 2 s t ∧ SameLaunch s t ∧
    (∀ w, AboutToRun s w → t.readReg 2 = w) ∧ ((∀ w, ¬ AboutToRun s w) → t.readReg 2 = s.readReg 2) ∧
    ¬ t.running ∧ (∀ m u, hostMove m t = .next u → u.fault = t.fault)

/-- 60_exceptions R159: the first condition met in stage order is the one recorded: fetch bounds, fetch non-integer,
arity, and in `DIVI` data bounds, data non-integer, zero divisor. -/
def Obligations.FaultPriorityFollowsTheStageOrder : Prop :=
  ∀ s : State, s.launchPremises → s.running →
    (s.pc.toInt < 0 → ∃ t, step s = .next t ∧ t.fault = some (.memoryFault s.pc.toInt)) ∧
    (0 ≤ s.pc.toInt → s.cellAt s.pc.toNat = .nonInt →
      ∃ t, step s = .next t ∧ t.fault = some (.decodeError .fetchNonInt s.pc.toInt)) ∧
    (∀ w, AboutToRun s w → lacksOperand (opcodeOf w).toNat (typeOf w).toNat = true →
      ∃ t, step s = .next t ∧ t.fault = some (.decodeError .arity s.pc.toInt)) ∧
    (∀ w r2 a, AboutToRun s w →
      (∃ r1 r3 b, decode w = .diviT0 r1 r2 r3 b ∧ a = b.toNat) ∨ (∃ r1 b, decode w = .diviT1 r1 r2 b ∧ a = b.toNat) ∨
        (∃ r1 b, decode w = .diviT3 r1 r2 b ∧ a = b.toNat) →
      (OutOfBounds s a → ∃ t, step s = .next t ∧ t.fault = some (.memoryFault (s.effectiveAddress a))) ∧
      (HoldsMarker s a → ∃ t, step s = .next t ∧ t.fault = some (.decodeError .dataNonInt (s.effectiveAddress a))) ∧
      (HoldsData s a 0 → ∃ t, step s = .next t ∧ t.fault = some (.arithmeticFault s.pc.toInt)))

/-! ## Memory primitives -/

/-- 20_memory R48 and R50: the three outcomes of a data read and of a fetch of cell `i`. -/
def Obligations.CellReadsFollowTheirPseudocode : Prop :=
  ∀ (s : State) (i : Int),
    (i < 0 ∨ (s.memSize : Int) ≤ i → s.memRead i = .error (.memoryFault i) ∧ s.fetchCell i = .error (.memoryFault i)) ∧
    (0 ≤ i → i < s.memSize → ∀ w, s.cellAt i.toNat = .int w → s.memRead i = .ok w ∧ s.fetchCell i = .ok w) ∧
    (0 ≤ i → i < s.memSize → s.cellAt i.toNat = .nonInt →
      s.memRead i = .error (.decodeError .dataNonInt i) ∧ s.fetchCell i = .error (.decodeError .fetchNonInt i))

/-- 20_memory sections 5 and 10: a write out of bounds raises, a write in bounds replaces whatever the cell held by the
integer and touches nothing else (the pseudocode of R49). That a data read and a fetch then give the value back is what
the spec marks as derived (the last sentence of R49, and R58). -/
def Obligations.CellWriteIsReadBack : Prop :=
  ∀ (s : State) (i : Int) (v : Word),
    (i < 0 ∨ (s.memSize : Int) ≤ i → s.memWrite i v = .error (.memoryFault i)) ∧
    (0 ≤ i → i < s.memSize → ∃ t, s.memWrite i v = .ok t ∧ t.memRead i = .ok v ∧ t.fetchCell i = .ok v ∧
      t.cellAt i.toNat = .int v ∧ SameCellsBut i.toNat s t ∧ SameRegs s t ∧ t.pc = s.pc ∧ t.fault = s.fault ∧
      SameLaunch s t)

/-! ## Arithmetic -/

/-- 42_alu R120: sum, difference and product are the exact result reduced by `wrap32`, hence exact in range. -/
def Obligations.ArithmeticIsExactInRangeAndWraps : Prop :=
  (∀ a b : Word, IsWrap32 (a.toInt + b.toInt) (addWord a b).toInt ∧ IsWrap32 (a.toInt - b.toInt) (subWord a b).toInt ∧
    IsWrap32 (a.toInt * b.toInt) (mulWord a b).toInt) ∧
  (∀ n m : Int, IsWrap32 n m → -2147483648 ≤ n → n < 2147483648 → m = n)

/-- 42_alu R121: the quotient is rounded toward zero at every sign combination, and -2^31 / -1 wraps to -2^31. -/
def Obligations.DivisionRoundsTowardZero : Prop :=
  (∀ a b : Word, b ≠ 0 → IsWrap32 (a.toInt.sign * b.toInt.sign * (a.toInt.natAbs / b.toInt.natAbs : Nat)) (tdiv a b).toInt) ∧
  (∀ a b : Word, b ≠ 0 → ¬ (a = 0x80000000 ∧ b = 0xFFFFFFFF) → ∀ q, (tdiv a b).toInt = q →
    q.natAbs * b.toInt.natAbs ≤ a.toInt.natAbs ∧ a.toInt.natAbs < (q.natAbs + 1) * b.toInt.natAbs ∧
    0 ≤ q * (a.toInt * b.toInt)) ∧
  tdiv 0x80000000 0xFFFFFFFF = 0x80000000

/-- 42_alu R123: the destination of `AND`, `OR`, `SLT` and `SLTI` holds 0 or 1 after the instruction, unless the
instruction raised. -/
def Obligations.ComparisonsWriteZeroOrOne : Prop :=
  ∀ i s t, s.fault = none → exec i s = .next t → t.fault = none →
    (∀ r1 r2 r3 a, i = .andT0 r1 r2 r3 a ∨ i = .orT0 r1 r2 r3 a ∨ i = .sltT0 r1 r2 r3 a →
      t.readReg r3 = 0 ∨ t.readReg r3 = 1) ∧
    (∀ r1 r2 r3 a b, i = .sltiT0 r1 r2 r3 a ∨ i = .sltiT1 r1 r2 b ∨ i = .sltiT3 r1 r2 b →
      t.readReg r2 = 0 ∨ t.readReg r2 = 1)

/-! ## Register 2, runs, and the host -/

/-- 10_state section 1 (R24, which the spec marks as derived), for every fetched word, and program P3: a step does not
depend on what register 2 held before; the instruction executes in the state in which register 2 holds its own word;
the word stays there unless register 2 is the instruction's destination and it did not raise. Then by instruction:
`MOV` from register 2 gives its own word, `MOVI` and `LDI` into it leave their value there, and `NOP` and the undefined
opcodes leave their own word. -/
def Obligations.RegisterTwoIsTheInstructionRegister : Prop :=
  (∀ s w v, AboutToRun s w → step (s.writeReg 2 v) = step s) ∧
  (∀ s w, AboutToRun s w → ∃ u : State, u.readReg 2 = w ∧ SameRegsBut 2 s u ∧ SameCells s u ∧ u.pc = s.pc ∧
    u.fault = s.fault ∧ SameLaunch s u ∧ step s = exec (decode w) u) ∧
  (∀ s w t, AboutToRun s w → step s = .next t → destinationOf (decode w) ≠ some 2 ∨ t.faulted → t.readReg 2 = w) ∧
  (∀ s w, AboutToRun s w → (opcodeOf w).toNat = 4 → typeOf w ≠ 2 → reg2Of w = 2 →
    ∃ t, step s = .next t ∧ t.readReg (reg1Of w) = w) ∧
  (∀ s w a v, AboutToRun s w → (opcodeOf w).toNat = 11 ∨ (opcodeOf w).toNat = 15 → typeOf w ≠ 2 → reg2Of w = 2 →
    (decode w).operandList.operands.address = some a → HoldsData s a v →
    ∃ t, step s = .next t ∧ t.readReg 2 = v ∧ ∀ w' x, AboutToRun t w' → step (t.writeReg 2 x) = step t) ∧
  (∀ s w, AboutToRun s w → (opcodeOf w).toNat = 19 ∨ 27 ≤ (opcodeOf w).toNat →
    ∃ t, step s = .next t ∧ t.readReg 2 = w ∧ SameRegsBut 2 s t ∧ SameCells s t ∧ t.pc = s.pc + 1#32 ∧ t.fault = none)

/-- The corner cases that 42_alu and 43_control draw from register 2 holding the instruction's own word: a `DIV` by
register 2 never raises, `BEZ` on it never jumps, `BNZ` on it goes to its target, `BGZ` on it jumps in Types 0 and 1
and not in Type 3. -/
def Obligations.OwnWordCornersOfDivBezBnzAndBgz : Prop :=
  (∀ s r1 r3 a, AboutToRun s (encode (.divT0 r1 2 r3 a)) → ∃ t, step s = .next t ∧ t.fault = none) ∧
  (∀ s r2 r3 a b, AboutToRun s (encode (.bezT0 2 r2 r3 a)) ∨ AboutToRun s (encode (.bezT1 2 r2 b)) ∨
      AboutToRun s (encode (.bezT3 2 r2 b)) →
    ∃ t, step s = .next t ∧ t.fault = none ∧ t.pc = s.pc + 1#32) ∧
  (∀ s r2 r3 a v, AboutToRun s (encode (.bnzT0 2 r2 r3 a)) ∨ AboutToRun s (encode (.bgzT0 2 r2 r3 a)) →
    HoldsData s a.toNat v → ∃ t, step s = .next t ∧ t.fault = none ∧ t.pc = v) ∧
  (∀ s r2 b v, AboutToRun s (encode (.bnzT1 2 r2 b)) ∨ AboutToRun s (encode (.bnzT3 2 r2 b)) ∨
      AboutToRun s (encode (.bgzT1 2 r2 b)) →
    HoldsData s b.toNat v → ∃ t, step s = .next t ∧ t.fault = none ∧ t.pc = v) ∧
  (∀ s r2 b, AboutToRun s (encode (.bgzT3 2 r2 b)) →
    ∃ t, step s = .next t ∧ t.fault = none ∧ t.pc = s.pc + 1#32)

/-- 40_cycle section 7 and 70_reset section 4: a `JMP` of any Type whose target cell holds its own index runs forever,
from any launched state: after any number of steps `pc` is at that same index. -/
def Obligations.JumpToItselfRunsForever : Prop :=
  ∀ (s : State) (w : Word) (a k : Nat), AboutToRun s w → (opcodeOf w).toNat = 20 →
    (decode w).operandList.operands.address = some a → HoldsData s a s.pc →
    ∃ t : State, core.run k s = .next t ∧ AboutToRun t w ∧ t.pc = s.pc ∧ SameCells s t ∧ SameRegsBut 2 s t ∧
      SameLaunch s t

/-- 70_reset section 3: `setProgramCounter(i)` writes `pc` and nothing else for every `i`, keeps the invariant, takes
an unfaulted machine to running or to halted as `i` says, and does not clear a fault. -/
def Obligations.SetProgramCounterWritesOnlyPc : Prop :=
  ∀ (s : State) (i : Word), ∃ t, hostMove (.setProgramCounter i) s = .next t ∧ WentTo i s t ∧ (MachineInv s → MachineInv t) ∧
    (s.fault = none → i.toInt < s.ic → t.running) ∧ (s.fault = none → (s.ic : Int) ≤ i.toInt → t.halted) ∧
    (s.faulted → t.faulted)

/-! ## The instructions, in the table's order. Operand roles are the spec's decisions D7 and D8 (log 11). -/

/-- `RD`, 41_move R100. -/
def Obligations.RdCopiesDataOrReg2IntoReg1 : Prop :=
  InTypes013 0 .rdT0 .rdT1 .rdT2 .rdT3 fun i r1 r2 a => ∀ s,
    (a = 0 → Completes i s (WroteReg r1 (s.readReg r2))) ∧
    (a ≠ 0 → ReadsData i s a fun v => WroteReg r1 v)

/-- `WR` and `ST`, 41_move R101, R102: the one cell stored to is the one at `EA(a)`. -/
def Obligations.WrAndStCopyReg1IntoDataOrReg2 : Prop :=
  (InTypes013 1 .wrT0 .wrT1 .wrT2 .wrT3 fun i r1 r2 a => ∀ s,
    (a = 0 → Completes i s (WroteReg r2 (s.readReg r1))) ∧
    (a ≠ 0 → InBounds s a → Completes i s (WroteCell (s.effectiveAddress a) (s.readReg r1))) ∧
    (a ≠ 0 → OutOfBounds s a → Completes i s (RaisedOnly (.memoryFault (s.effectiveAddress a))))) ∧
  (InTypes013 2 .stT0 .stT1 .stT2 .stT3 fun i r1 r2 a => ∀ s,
    (a = 0 → Completes i s (WroteReg r2 (s.readReg r1))) ∧
    (a ≠ 0 → InBounds s a → Completes i s (WroteCell (s.effectiveAddress a) (s.readReg r1))) ∧
    (a ≠ 0 → OutOfBounds s a → Completes i s (RaisedOnly (.memoryFault (s.effectiveAddress a)))))

/-- `LW`, 41_move R103. -/
def Obligations.LwCopiesDataOrReg1IntoReg2 : Prop :=
  InTypes013 3 .lwT0 .lwT1 .lwT2 .lwT3 fun i r1 r2 a => ∀ s,
    (a = 0 → Completes i s (WroteReg r2 (s.readReg r1))) ∧
    (a ≠ 0 → ReadsData i s a fun v => WroteReg r2 v)

/-- `MOV`, 42_alu R110. -/
def Obligations.MovCopiesReg2IntoReg1 : Prop :=
  InTypes013 4 .movT0 .movT1 .movT2 .movT3 fun i r1 r2 _ => ∀ s, Completes i s (WroteReg r1 (s.readReg r2))

/-- `ADD`, `SUB`, `MUL`, 42_alu R111 to R113. -/
def Obligations.AddSubMulWriteTheWrappedResultToReg3 : Prop :=
  (InType0 5 .addT0 .addT1 .addT2 .addT3 fun i r1 r2 r3 => ∀ s, Completes i s fun _ t => ∃ v : Word,
    IsWrap32 ((s.readReg r1).toInt + (s.readReg r2).toInt) v.toInt ∧ WroteReg r3 v s t) ∧
  (InType0 6 .subT0 .subT1 .subT2 .subT3 fun i r1 r2 r3 => ∀ s, Completes i s fun _ t => ∃ v : Word,
    IsWrap32 ((s.readReg r1).toInt - (s.readReg r2).toInt) v.toInt ∧ WroteReg r3 v s t) ∧
  (InType0 7 .mulT0 .mulT1 .mulT2 .mulT3 fun i r1 r2 r3 => ∀ s, Completes i s fun _ t => ∃ v : Word,
    IsWrap32 ((s.readReg r1).toInt * (s.readReg r2).toInt) v.toInt ∧ WroteReg r3 v s t)

/-- `DIV`, 42_alu R114. -/
def Obligations.DivWritesTheTruncatedQuotientOrRaises : Prop :=
  InType0 8 .divT0 .divT1 .divT2 .divT3 fun i r1 r2 r3 => ∀ s,
    (s.readReg r2 = 0 → Completes i s (RaisedOnly (.arithmeticFault s.pc.toInt))) ∧
    (s.readReg r2 ≠ 0 → Completes i s fun _ t => ∃ v : Word,
      IsWrap32 (Int.tdiv (s.readReg r1).toInt (s.readReg r2).toInt) v.toInt ∧ WroteReg r3 v s t)

/-- `AND` and `OR`, 42_alu R115, R116: an equality test and a test for the literal 1. -/
def Obligations.AndTestsEqualityAndOrTestsForOne : Prop :=
  (InType0 9 .andT0 .andT1 .andT2 .andT3 fun i r1 r2 r3 => ∀ s,
    Completes i s (WroteReg r3 (if (s.readReg r1).toInt = (s.readReg r2).toInt then 1 else 0))) ∧
  (InType0 10 .orT0 .orT1 .orT2 .orT3 fun i r1 r2 r3 => ∀ s,
    Completes i s (WroteReg r3 (if (s.readReg r1).toInt = 1 ∨ (s.readReg r2).toInt = 1 then 1 else 0)))

/-- `MOVI` and `LDI`, 41_move R104, R108: no sentinel, address operand 0 included. -/
def Obligations.MoviAndLdiLoadReg2 : Prop :=
  (InTypes013 11 .moviT0 .moviT1 .moviT2 .moviT3 fun i _ r2 a => ∀ s, ReadsData i s a fun v => WroteReg r2 v) ∧
  (InTypes013 15 .ldiT0 .ldiT1 .ldiT2 .ldiT3 fun i _ r2 a => ∀ s, ReadsData i s a fun v => WroteReg r2 v)

/-- `ADDI` and `MULI`, 41_move R105, R106. -/
def Obligations.AddiAndMuliCombineDataIntoReg2 : Prop :=
  (InTypes013 12 .addiT0 .addiT1 .addiT2 .addiT3 fun i _ r2 a => ∀ s, ReadsData i s a fun v _ t => ∃ m : Word,
    IsWrap32 ((s.readReg r2).toInt + v.toInt) m.toInt ∧ WroteReg r2 m s t) ∧
  (InTypes013 13 .muliT0 .muliT1 .muliT2 .muliT3 fun i _ r2 a => ∀ s, ReadsData i s a fun v _ t => ∃ m : Word,
    IsWrap32 ((s.readReg r2).toInt * v.toInt) m.toInt ∧ WroteReg r2 m s t)

/-- `DIVI`, 41_move R107. -/
def Obligations.DiviDividesReg2ByDataOrRaises : Prop :=
  InTypes013 14 .diviT0 .diviT1 .diviT2 .diviT3 fun i _ r2 a => ∀ s, ReadsData i s a fun v _ t =>
    (v = 0 → RaisedOnly (.arithmeticFault s.pc.toInt) s t) ∧
    (v ≠ 0 → ∃ m : Word, IsWrap32 (Int.tdiv (s.readReg r2).toInt v.toInt) m.toInt ∧ WroteReg r2 m s t)

/-- `SLT`, 42_alu R117: a signed comparison. -/
def Obligations.SltComparesSignedIntoReg3 : Prop :=
  InType0 16 .sltT0 .sltT1 .sltT2 .sltT3 fun i r1 r2 r3 => ∀ s,
    Completes i s (WroteReg r3 (if (s.readReg r1).toInt < (s.readReg r2).toInt then 1 else 0))

/-- `SLTI`, 42_alu R118: the right operand is the cell, no sentinel. -/
def Obligations.SltiComparesReg1WithDataIntoReg2 : Prop :=
  InTypes013 17 .sltiT0 .sltiT1 .sltiT2 .sltiT3 fun i r1 r2 a => ∀ s,
    ReadsData i s a fun v => WroteReg r2 (if (s.readReg r1).toInt < v.toInt then 1 else 0)

/-- `HLT`, 43_control R130: `pc` becomes IC, and a launched machine with no fault is then halted; the whole step also
leaves the word in `x[2]`. -/
def Obligations.HltGoesToInstructionCountAndHalts : Prop :=
  (InAllTypes 18 .hltT0 .hltT1 .hltT2 .hltT3 fun i _ => ∀ s,
    Completes i s (WentTo (BitVec.ofNat 32 s.ic)) ∧
    (s.launchPremises → s.fault = none → Completes i s fun _ t => t.pc.toInt = s.ic ∧ t.halted)) ∧
  (∀ s w, AboutToRun s w → (opcodeOf w).toNat = 18 →
    ∃ t, step s = .next t ∧ t.readReg 2 = w ∧ SameRegsBut 2 s t ∧ SameCells s t ∧ t.pc.toInt = s.ic ∧ t.halted ∧
      SameLaunch s t)

/-- `NOP`, 43_control R131: nothing; the whole step writes `x[2]` and advances `pc`. -/
def Obligations.NopOnlyAdvances : Prop :=
  (InAllTypes 19 .nopT0 .nopT1 .nopT2 .nopT3 fun i _ => ∀ s, Completes i s (WentTo (s.pc + 1#32))) ∧
  (∀ s w, AboutToRun s w → (opcodeOf w).toNat = 19 →
    ∃ t, step s = .next t ∧ t.readReg 2 = w ∧ SameRegsBut 2 s t ∧ SameCells s t ∧ t.pc = s.pc + 1#32 ∧
      t.fault = none ∧ SameLaunch s t)

/-- `JMP`, 43_control R132: the target is the value in the cell, absolute and unchecked. -/
def Obligations.JmpGoesToTheValueOfTheDataCell : Prop :=
  InAllTypes 20 .jmpT0 .jmpT1 .jmpT2 .jmpT3 fun i a => ∀ s, ReadsData i s a fun v => WentTo v

/-- `BEQ` and `BNE`, 43_control R133, R134, with R140: the cell is read only where the branch is taken. -/
def Obligations.BeqAndBneBranchOnRegisterEquality : Prop :=
  (InTypes013 21 .beqT0 .beqT1 .beqT2 .beqT3 fun i r1 r2 a => ∀ s,
    (s.readReg r1 = s.readReg r2 → ReadsData i s a fun v => WentTo v) ∧
    (s.readReg r1 ≠ s.readReg r2 → Completes i s (WentTo (s.pc + 1#32)))) ∧
  (InTypes013 22 .bneT0 .bneT1 .bneT2 .bneT3 fun i r1 r2 a => ∀ s,
    (s.readReg r1 ≠ s.readReg r2 → ReadsData i s a fun v => WentTo v) ∧
    (s.readReg r1 = s.readReg r2 → Completes i s (WentTo (s.pc + 1#32))))

/-- `BEZ` and `BNZ`, 43_control R135, R136, with R140. -/
def Obligations.BezAndBnzBranchOnZero : Prop :=
  (InTypes013 23 .bezT0 .bezT1 .bezT2 .bezT3 fun i r1 _ a => ∀ s,
    ((s.readReg r1).toInt = 0 → ReadsData i s a fun v => WentTo v) ∧
    ((s.readReg r1).toInt ≠ 0 → Completes i s (WentTo (s.pc + 1#32)))) ∧
  (InTypes013 24 .bnzT0 .bnzT1 .bnzT2 .bnzT3 fun i r1 _ a => ∀ s,
    ((s.readReg r1).toInt ≠ 0 → ReadsData i s a fun v => WentTo v) ∧
    ((s.readReg r1).toInt = 0 → Completes i s (WentTo (s.pc + 1#32))))

/-- `BGZ` and `BLZ`, 43_control R137, R138, with R140: signed tests. -/
def Obligations.BgzAndBlzBranchOnSign : Prop :=
  (InTypes013 25 .bgzT0 .bgzT1 .bgzT2 .bgzT3 fun i r1 _ a => ∀ s,
    (0 < (s.readReg r1).toInt → ReadsData i s a fun v => WentTo v) ∧
    ((s.readReg r1).toInt ≤ 0 → Completes i s (WentTo (s.pc + 1#32)))) ∧
  (InTypes013 26 .blzT0 .blzT1 .blzT2 .blzT3 fun i r1 _ a => ∀ s,
    ((s.readReg r1).toInt < 0 → ReadsData i s a fun v => WentTo v) ∧
    (0 ≤ (s.readReg r1).toInt → Completes i s (WentTo (s.pc + 1#32))))

/-- The undefined opcodes, 40_cycle R90: a no-op in every Type and for every operand bit; the whole step writes
`x[2]` and advances `pc`. -/
def Obligations.UndefinedOpcodesOnlyAdvance : Prop :=
  (∀ ty operands s, Completes (.undef27 ty operands) s (WentTo (s.pc + 1#32))) ∧
  (∀ ty op operands s, Completes (.undef28to31 ty op operands) s (WentTo (s.pc + 1#32))) ∧
  (∀ ty op operands s, Completes (.undef32to63 ty op operands) s (WentTo (s.pc + 1#32))) ∧
  (∀ s w, AboutToRun s w → 27 ≤ (opcodeOf w).toNat →
    ∃ t, step s = .next t ∧ t.readReg 2 = w ∧ SameRegsBut 2 s t ∧ SameCells s t ∧ t.pc = s.pc + 1#32 ∧
      t.fault = none ∧ SameLaunch s t)
end

