-- ==== Sys2Proof/Laws/Arith.lean ====
section
/-! SUPPORT. `wrap32` and the tests, on integers. -/

namespace Sys2Proof

open Machine

/-- `wrap32 n` is the integer that 00_scope R11 defines. -/
theorem isWrap32_wrap32 (n : Int) : IsWrap32 n (wrap32 n).toInt := by
  have h : (wrap32 n).toInt = n.bmod 4294967296 := BitVec.toInt_ofInt n
  have h1 : -2147483648 ≤ n.bmod 4294967296 := Int.le_bmod (by decide)
  have h2 : n.bmod 4294967296 < 2147483648 := Int.bmod_lt (by decide)
  have h3 : n.bmod 4294967296 % 4294967296 = n % 4294967296 := Int.bmod_emod
  rw [h]
  exact ⟨h1, h2, by omega⟩

/-- Two words with one signed reading are one word. -/
theorem word_eq_of_toInt {a b : Word} (h : a.toInt = b.toInt) : a = b := BitVec.eq_of_toInt_eq h

end Sys2Proof
end

