-- ==== Sys2Proof/Laws/Encoding.lean ====
section
/-! SUPPORT. The fields of an encoded word: what each field function cuts out of it. -/

namespace Sys2Proof

/-- Cutting above the low part of an append. -/
theorem extract_append_high {n m : Nat} (x : BitVec n) (y : BitVec m) {start len : Nat} (h : m ≤ start) :
    (x ++ y).extractLsb' start len = x.extractLsb' (start - m) len := BitVec.extractLsb'_append_eq_of_le h

/-- Cutting exactly the low part of an append. -/
theorem extract_append_low {n m : Nat} (x : BitVec n) (y : BitVec m) : (x ++ y).extractLsb' 0 m = y := by
  ext i hi
  simp [BitVec.getLsbD_append, hi, BitVec.getLsbD_eq_getElem]

/-- Cutting inside the low part of an append. -/
theorem extract_append_inside {n m : Nat} (x : BitVec n) (y : BitVec m) {start len : Nat} (h : start + len ≤ m) :
    (x ++ y).extractLsb' start len = y.extractLsb' start len := by
  ext i hi
  have : start + i < m := by omega
  simp [BitVec.getLsbD_append, this]

theorem header_encode0 (op : BitVec 6) (r1 r2 r3 : RegIdx) (a : BitVec 4) :
    typeOf (encode0 op r1 r2 r3 a) = 0 ∧ opcodeOf (encode0 op r1 r2 r3 a) = op := by
  constructor
  · simp only [typeOf, encode0]
    iterate rw [extract_append_high _ _ (by decide)]
    rfl
  · simp only [opcodeOf, encode0]
    iterate rw [extract_append_high _ _ (by decide)]
    exact extract_append_low _ _

theorem fields_encode0 (op : BitVec 6) (r1 r2 r3 : RegIdx) (a : BitVec 4) :
    reg1Of (encode0 op r1 r2 r3 a) = r1 ∧ reg2Of (encode0 op r1 r2 r3 a) = r2 ∧
      reg3Of (encode0 op r1 r2 r3 a) = r3 ∧ address4Of (encode0 op r1 r2 r3 a) = a := by
  refine ⟨?_, ?_, ?_, ?_⟩ <;> simp only [reg1Of, reg2Of, reg3Of, address4Of, encode0] <;>
    iterate rw [extract_append_high _ _ (by decide)]
  all_goals exact extract_append_low _ _

theorem header_encode1 (op : BitVec 6) (r1 r2 : RegIdx) (a : BitVec 16) :
    typeOf (encode1 op r1 r2 a) = 1 ∧ opcodeOf (encode1 op r1 r2 a) = op := by
  constructor
  · simp only [typeOf, encode1]
    iterate rw [extract_append_high _ _ (by decide)]
    rfl
  · simp only [opcodeOf, encode1]
    iterate rw [extract_append_high _ _ (by decide)]
    exact extract_append_low _ _

theorem fields_encode1 (op : BitVec 6) (r1 r2 : RegIdx) (a : BitVec 16) :
    reg1Of (encode1 op r1 r2 a) = r1 ∧ reg2Of (encode1 op r1 r2 a) = r2 ∧ address16Of (encode1 op r1 r2 a) = a := by
  refine ⟨?_, ?_, extract_append_low _ _⟩ <;> simp only [reg1Of, reg2Of, encode1] <;>
    iterate rw [extract_append_high _ _ (by decide)]
  all_goals exact extract_append_low _ _

theorem header_encode2 (op : BitVec 6) (a : BitVec 24) :
    typeOf (encode2 op a) = 2 ∧ opcodeOf (encode2 op a) = op := by
  constructor
  · simp only [typeOf, encode2]
    iterate rw [extract_append_high _ _ (by decide)]
    rfl
  · simp only [opcodeOf, encode2]
    iterate rw [extract_append_high _ _ (by decide)]
    exact extract_append_low _ _

theorem fields_encode2 (op : BitVec 6) (a : BitVec 24) : address24Of (encode2 op a) = a := extract_append_low _ _

theorem header_encode3 (op : BitVec 6) (r1 r2 : RegIdx) (a : BitVec 16) :
    typeOf (encode3 op r1 r2 a) = 3 ∧ opcodeOf (encode3 op r1 r2 a) = op := by
  constructor
  · simp only [typeOf, encode3]
    iterate rw [extract_append_high _ _ (by decide)]
    rfl
  · simp only [opcodeOf, encode3]
    iterate rw [extract_append_high _ _ (by decide)]
    exact extract_append_low _ _

theorem fields_encode3 (op : BitVec 6) (r1 r2 : RegIdx) (a : BitVec 16) :
    reg1Of (encode3 op r1 r2 a) = r1 ∧ reg2Of (encode3 op r1 r2 a) = r2 ∧ address16Of (encode3 op r1 r2 a) = a := by
  refine ⟨?_, ?_, extract_append_low _ _⟩ <;> simp only [reg1Of, reg2Of, encode3] <;>
    iterate rw [extract_append_high _ _ (by decide)]
  all_goals exact extract_append_low _ _

theorem header_encodeUndef (type : BitVec 2) (op : BitVec 6) (operands : BitVec 24) :
    typeOf (encodeUndef type op operands) = type ∧ opcodeOf (encodeUndef type op operands) = op := by
  constructor
  · simp only [typeOf, encodeUndef]
    iterate rw [extract_append_high _ _ (by decide)]
    exact BitVec.extractLsb'_eq_self
  · simp only [opcodeOf, encodeUndef]
    iterate rw [extract_append_high _ _ (by decide)]
    exact extract_append_low _ _

theorem fields_encodeUndef (type : BitVec 2) (op : BitVec 6) (operands : BitVec 24) :
    address24Of (encodeUndef type op operands) = operands := extract_append_low _ _

/-! The opcode map, one equation per opcode. -/

theorem decode_rd {w : Word} (h : opcodeOf w = 0) : decode w = byType w .rdT0 .rdT1 .rdT2 .rdT3 := by
  simp only [decode, h]
  rfl

theorem decode_wr {w : Word} (h : opcodeOf w = 1) : decode w = byType w .wrT0 .wrT1 .wrT2 .wrT3 := by
  simp only [decode, h]
  rfl

theorem decode_st {w : Word} (h : opcodeOf w = 2) : decode w = byType w .stT0 .stT1 .stT2 .stT3 := by
  simp only [decode, h]
  rfl

theorem decode_lw {w : Word} (h : opcodeOf w = 3) : decode w = byType w .lwT0 .lwT1 .lwT2 .lwT3 := by
  simp only [decode, h]
  rfl

theorem decode_mov {w : Word} (h : opcodeOf w = 4) : decode w = byType w .movT0 .movT1 .movT2 .movT3 := by
  simp only [decode, h]
  rfl

theorem decode_add {w : Word} (h : opcodeOf w = 5) : decode w = byType w .addT0 .addT1 .addT2 .addT3 := by
  simp only [decode, h]
  rfl

theorem decode_sub {w : Word} (h : opcodeOf w = 6) : decode w = byType w .subT0 .subT1 .subT2 .subT3 := by
  simp only [decode, h]
  rfl

theorem decode_mul {w : Word} (h : opcodeOf w = 7) : decode w = byType w .mulT0 .mulT1 .mulT2 .mulT3 := by
  simp only [decode, h]
  rfl

theorem decode_div {w : Word} (h : opcodeOf w = 8) : decode w = byType w .divT0 .divT1 .divT2 .divT3 := by
  simp only [decode, h]
  rfl

theorem decode_and {w : Word} (h : opcodeOf w = 9) : decode w = byType w .andT0 .andT1 .andT2 .andT3 := by
  simp only [decode, h]
  rfl

theorem decode_or {w : Word} (h : opcodeOf w = 10) : decode w = byType w .orT0 .orT1 .orT2 .orT3 := by
  simp only [decode, h]
  rfl

theorem decode_movi {w : Word} (h : opcodeOf w = 11) : decode w = byType w .moviT0 .moviT1 .moviT2 .moviT3 := by
  simp only [decode, h]
  rfl

theorem decode_addi {w : Word} (h : opcodeOf w = 12) : decode w = byType w .addiT0 .addiT1 .addiT2 .addiT3 := by
  simp only [decode, h]
  rfl

theorem decode_muli {w : Word} (h : opcodeOf w = 13) : decode w = byType w .muliT0 .muliT1 .muliT2 .muliT3 := by
  simp only [decode, h]
  rfl

theorem decode_divi {w : Word} (h : opcodeOf w = 14) : decode w = byType w .diviT0 .diviT1 .diviT2 .diviT3 := by
  simp only [decode, h]
  rfl

theorem decode_ldi {w : Word} (h : opcodeOf w = 15) : decode w = byType w .ldiT0 .ldiT1 .ldiT2 .ldiT3 := by
  simp only [decode, h]
  rfl

theorem decode_slt {w : Word} (h : opcodeOf w = 16) : decode w = byType w .sltT0 .sltT1 .sltT2 .sltT3 := by
  simp only [decode, h]
  rfl

theorem decode_slti {w : Word} (h : opcodeOf w = 17) : decode w = byType w .sltiT0 .sltiT1 .sltiT2 .sltiT3 := by
  simp only [decode, h]
  rfl

theorem decode_hlt {w : Word} (h : opcodeOf w = 18) : decode w = byType w .hltT0 .hltT1 .hltT2 .hltT3 := by
  simp only [decode, h]
  rfl

theorem decode_nop {w : Word} (h : opcodeOf w = 19) : decode w = byType w .nopT0 .nopT1 .nopT2 .nopT3 := by
  simp only [decode, h]
  rfl

theorem decode_jmp {w : Word} (h : opcodeOf w = 20) : decode w = byType w .jmpT0 .jmpT1 .jmpT2 .jmpT3 := by
  simp only [decode, h]
  rfl

theorem decode_beq {w : Word} (h : opcodeOf w = 21) : decode w = byType w .beqT0 .beqT1 .beqT2 .beqT3 := by
  simp only [decode, h]
  rfl

theorem decode_bne {w : Word} (h : opcodeOf w = 22) : decode w = byType w .bneT0 .bneT1 .bneT2 .bneT3 := by
  simp only [decode, h]
  rfl

theorem decode_bez {w : Word} (h : opcodeOf w = 23) : decode w = byType w .bezT0 .bezT1 .bezT2 .bezT3 := by
  simp only [decode, h]
  rfl

theorem decode_bnz {w : Word} (h : opcodeOf w = 24) : decode w = byType w .bnzT0 .bnzT1 .bnzT2 .bnzT3 := by
  simp only [decode, h]
  rfl

theorem decode_bgz {w : Word} (h : opcodeOf w = 25) : decode w = byType w .bgzT0 .bgzT1 .bgzT2 .bgzT3 := by
  simp only [decode, h]
  rfl

theorem decode_blz {w : Word} (h : opcodeOf w = 26) : decode w = byType w .blzT0 .blzT1 .blzT2 .blzT3 := by
  simp only [decode, h]
  rfl

theorem byType_type0 {w : Word} (h : typeOf w = 0) (t0 t1 t2 t3) :
    byType w t0 t1 t2 t3 = t0 (reg1Of w) (reg2Of w) (reg3Of w) (address4Of w) := by simp [byType, h]

theorem byType_type1 {w : Word} (h : typeOf w = 1) (t0 t1 t2 t3) :
    byType w t0 t1 t2 t3 = t1 (reg1Of w) (reg2Of w) (address16Of w) := by simp [byType, h]

theorem byType_type2 {w : Word} (h : typeOf w = 2) (t0 t1 t2 t3) : byType w t0 t1 t2 t3 = t2 (address24Of w) := by
  simp [byType, h]

theorem byType_type3 {w : Word} (h : typeOf w = 3) (t0 t1 t2 t3) :
    byType w t0 t1 t2 t3 = t3 (reg1Of w) (reg2Of w) (address16Of w) := by simp [byType, h]

end Sys2Proof
end

