-- ==== Sys2Proof/Laws/State.lean ====
section
/-! SUPPORT. One lemma per field per update of the state, and reads after writes, so that no later proof unfolds a
record update. -/

namespace Sys2Proof.Machine

@[simp] theorem State.writeReg_pc (s : State) (i : RegIdx) (v : Word) : (s.writeReg i v).pc = s.pc := rfl
@[simp] theorem State.writeReg_ic (s : State) (i : RegIdx) (v : Word) : (s.writeReg i v).ic = s.ic := rfl
@[simp] theorem State.writeReg_dmo (s : State) (i : RegIdx) (v : Word) : (s.writeReg i v).dmo = s.dmo := rfl
@[simp] theorem State.writeReg_memSize (s : State) (i : RegIdx) (v : Word) : (s.writeReg i v).memSize = s.memSize := rfl
@[simp] theorem State.writeReg_mem (s : State) (i : RegIdx) (v : Word) : (s.writeReg i v).mem = s.mem := rfl
@[simp] theorem State.writeReg_fault (s : State) (i : RegIdx) (v : Word) : (s.writeReg i v).fault = s.fault := rfl

@[simp] theorem State.setPc_regs (s : State) (v : Word) : (s.setPc v).regs = s.regs := rfl
@[simp] theorem State.setPc_pc (s : State) (v : Word) : (s.setPc v).pc = v := rfl
@[simp] theorem State.setPc_ic (s : State) (v : Word) : (s.setPc v).ic = s.ic := rfl
@[simp] theorem State.setPc_dmo (s : State) (v : Word) : (s.setPc v).dmo = s.dmo := rfl
@[simp] theorem State.setPc_memSize (s : State) (v : Word) : (s.setPc v).memSize = s.memSize := rfl
@[simp] theorem State.setPc_mem (s : State) (v : Word) : (s.setPc v).mem = s.mem := rfl
@[simp] theorem State.setPc_fault (s : State) (v : Word) : (s.setPc v).fault = s.fault := rfl

@[simp] theorem State.putCell_regs (s : State) (n : Nat) (v : Word) : (s.putCell n v).regs = s.regs := rfl
@[simp] theorem State.putCell_pc (s : State) (n : Nat) (v : Word) : (s.putCell n v).pc = s.pc := rfl
@[simp] theorem State.putCell_ic (s : State) (n : Nat) (v : Word) : (s.putCell n v).ic = s.ic := rfl
@[simp] theorem State.putCell_dmo (s : State) (n : Nat) (v : Word) : (s.putCell n v).dmo = s.dmo := rfl
@[simp] theorem State.putCell_memSize (s : State) (n : Nat) (v : Word) : (s.putCell n v).memSize = s.memSize := rfl
@[simp] theorem State.putCell_mem (s : State) (n : Nat) (v : Word) : (s.putCell n v).mem = s.mem.put n v := rfl
@[simp] theorem State.putCell_fault (s : State) (n : Nat) (v : Word) : (s.putCell n v).fault = s.fault := rfl

@[simp] theorem State.setFault_regs (s : State) (f : FatalCondition) : (s.setFault f).regs = s.regs := rfl
@[simp] theorem State.setFault_pc (s : State) (f : FatalCondition) : (s.setFault f).pc = s.pc := rfl
@[simp] theorem State.setFault_ic (s : State) (f : FatalCondition) : (s.setFault f).ic = s.ic := rfl
@[simp] theorem State.setFault_dmo (s : State) (f : FatalCondition) : (s.setFault f).dmo = s.dmo := rfl
@[simp] theorem State.setFault_memSize (s : State) (f : FatalCondition) : (s.setFault f).memSize = s.memSize := rfl
@[simp] theorem State.setFault_mem (s : State) (f : FatalCondition) : (s.setFault f).mem = s.mem := rfl
@[simp] theorem State.setFault_fault (s : State) (f : FatalCondition) : (s.setFault f).fault = some f := rfl

/-- A register read after a register write. -/
theorem State.readReg_writeReg (s : State) (i j : RegIdx) (v : Word) :
    (s.writeReg i v).readReg j = if j = i then v else s.readReg j := by
  simp only [State.readReg, State.writeReg, Vector.get_eq_getElem, Vector.getElem_set, BitVec.val_toFin]
  by_cases h : j = i
  · simp [h]
  · have : ¬ i.toNat = j.toNat := fun e => h (BitVec.eq_of_toNat_eq e.symm)
    simp [h, this]

@[simp] theorem State.readReg_writeReg_same (s : State) (i : RegIdx) (v : Word) : (s.writeReg i v).readReg i = v := by
  simp [State.readReg_writeReg]

theorem State.readReg_writeReg_ne (s : State) {i j : RegIdx} (v : Word) (h : j ≠ i) :
    (s.writeReg i v).readReg j = s.readReg j := by
  simp [State.readReg_writeReg, h]

/-- Of two writes of one register the later one stands. -/
@[simp] theorem State.writeReg_writeReg_same (s : State) (i : RegIdx) (v w : Word) :
    (s.writeReg i v).writeReg i w = s.writeReg i w := by
  simp [State.writeReg]

@[simp] theorem State.readReg_setPc (s : State) (v : Word) (i : RegIdx) : (s.setPc v).readReg i = s.readReg i := rfl
@[simp] theorem State.readReg_putCell (s : State) (n : Nat) (v : Word) (i : RegIdx) :
    (s.putCell n v).readReg i = s.readReg i := rfl
@[simp] theorem State.readReg_setFault (s : State) (f : FatalCondition) (i : RegIdx) :
    (s.setFault f).readReg i = s.readReg i := rfl

@[simp] theorem State.cellAt_writeReg (s : State) (i : RegIdx) (v : Word) (n : Nat) :
    (s.writeReg i v).cellAt n = s.cellAt n := rfl
@[simp] theorem State.cellAt_setPc (s : State) (v : Word) (n : Nat) : (s.setPc v).cellAt n = s.cellAt n := rfl
@[simp] theorem State.cellAt_setFault (s : State) (f : FatalCondition) (n : Nat) :
    (s.setFault f).cellAt n = s.cellAt n := rfl

@[simp] theorem State.effectiveAddress_writeReg (s : State) (i : RegIdx) (v : Word) (a : Nat) :
    (s.writeReg i v).effectiveAddress a = s.effectiveAddress a := rfl

end Sys2Proof.Machine
end

