-- ==== Sys2Proof/Laws/Memory.lean ====
section
/-! SUPPORT. The memory list: a read after a write, and the canonical form, which every memory operation keeps. -/

namespace Sys2Proof.Machine

/-- A cell read after a cell write. -/
theorem Memory.cell_put (m : Memory) (n k : Nat) (v : Word) :
    Memory.cell (Memory.put m n v) k = if k = n then .int v else Memory.cell m k := by
  induction m with
  | nil => by_cases h : n = k <;> simp [Memory.put, Memory.cell, h, eq_comm]
  | cons p m ih =>
    obtain ⟨j, w⟩ := p
    simp only [Memory.put]
    split
    · by_cases h : k = n
      · simp [Memory.cell, h]
      · have : ¬ n = k := fun e => h e.symm
        simp [Memory.cell, h, this]
    · split
      · rename_i h
        subst h
        by_cases h : k = n
        · simp [Memory.cell, h]
        · have : ¬ n = k := fun e => h e.symm
          simp [Memory.cell, h, this]
      · rename_i h
        by_cases e : j = k
        · subst e
          have : ¬ j = n := fun e => h e.symm
          simp [Memory.cell, this]
        · simp [Memory.cell, e, ih]

/-- The entries of the memory after a write: the one written, and old ones. -/
theorem Memory.mem_put {m : Memory} {n : Nat} {v : Word} {p : Nat × Word} (h : p ∈ Memory.put m n v) :
    p = (n, v) ∨ p ∈ m := by
  induction m with
  | nil => exact .inl (by simpa [Memory.put] using h)
  | cons q m ih =>
    obtain ⟨j, w⟩ := q
    simp only [Memory.put] at h
    split at h
    · simpa using h
    · split at h
      · rcases List.mem_cons.1 h with h | h
        · exact .inl h
        · exact .inr (List.mem_cons_of_mem _ h)
      · rcases List.mem_cons.1 h with h | h
        · exact .inr (h ▸ List.mem_cons_self ..)
        · exact (ih h).imp_right (List.mem_cons_of_mem _)

/-- A write keeps the canonical form. -/
theorem Memory.wf_put {m : Memory} (n : Nat) (v : Word) (h : Memory.wf m) : Memory.wf (Memory.put m n v) := by
  induction m with
  | nil => simp [Memory.wf, Memory.put]
  | cons q m ih =>
    obtain ⟨j, w⟩ := q
    have hall : ∀ p ∈ m, j < p.1 := fun p hp => List.rel_of_pairwise_cons h hp
    have htail : Memory.wf m := List.Pairwise.of_cons h
    simp only [Memory.put]
    split
    · rename_i hn
      refine List.Pairwise.cons ?_ h
      intro p hp
      rcases List.mem_cons.1 hp with rfl | hp
      · exact hn
      · exact Nat.lt_trans hn (hall p hp)
    · split
      · rename_i e
        subst e
        exact List.Pairwise.cons (fun p hp => hall p hp) htail
      · rename_i h1 h2
        refine List.Pairwise.cons ?_ (ih htail)
        intro p hp
        rcases Memory.mem_put hp with rfl | hp
        · show j < n
          omega
        · exact hall p hp

/-- The cell of an image at an index. -/
theorem Memory.cell_ofCells (start : Nat) (cs : List Cell) (n : Nat) :
    Memory.cell (Memory.ofCells start cs) n = if start ≤ n then cs.getD (n - start) .nonInt else .nonInt := by
  induction cs generalizing start with
  | nil => simp [Memory.ofCells, Memory.cell]
  | cons c cs ih =>
    have key : ∀ k, start < k → k - start = (k - (start + 1)) + 1 := fun k hk => by omega
    rcases Nat.lt_trichotomy start n with h | h | h
    · have h1 : start ≤ n := by omega
      have h2 : start + 1 ≤ n := h
      have h3 : ¬ start = n := by omega
      cases c <;> simp [Memory.ofCells, Memory.cell, ih, h1, h2, h3, key n h]
    · subst h
      have h2 : ¬ start + 1 ≤ start := by omega
      cases c <;> simp [Memory.ofCells, Memory.cell, ih, h2]
    · have h1 : ¬ start ≤ n := by omega
      have h2 : ¬ start + 1 ≤ n := by omega
      have h3 : ¬ start = n := by omega
      cases c <;> simp [Memory.ofCells, Memory.cell, ih, h1, h2, h3]

/-- The indices of an image's entries. -/
theorem Memory.bounds_ofCells {start : Nat} {cs : List Cell} {p : Nat × Word} (h : p ∈ Memory.ofCells start cs) :
    start ≤ p.1 ∧ p.1 < start + cs.length := by
  induction cs generalizing start with
  | nil => simp [Memory.ofCells] at h
  | cons c cs ih =>
    have tail : p ∈ Memory.ofCells (start + 1) cs → start ≤ p.1 ∧ p.1 < start + (c :: cs).length := fun hp => by
      have := ih hp
      simp only [List.length_cons]
      omega
    cases c with
    | nonInt => exact tail h
    | int w =>
      rcases List.mem_cons.1 h with rfl | h
      · simp
      · exact tail h

/-- An image's memory has the canonical form. -/
theorem Memory.wf_ofCells (start : Nat) (cs : List Cell) : Memory.wf (Memory.ofCells start cs) := by
  induction cs generalizing start with
  | nil => simp [Memory.wf, Memory.ofCells]
  | cons c cs ih =>
    cases c with
    | nonInt => exact ih (start + 1)
    | int w =>
      refine List.Pairwise.cons ?_ (ih (start + 1))
      intro p hp
      exact (Memory.bounds_ofCells hp).1

theorem State.reset_mem_wf : Memory.wf State.reset.mem := by decide

theorem State.cellAt_putCell (s : State) (n k : Nat) (v : Word) :
    (s.putCell n v).cellAt k = if k = n then .int v else s.cellAt k := Memory.cell_put s.mem n k v

@[simp] theorem State.cellAt_putCell_same (s : State) (n : Nat) (v : Word) : (s.putCell n v).cellAt n = .int v := by
  simp [State.cellAt_putCell]

end Sys2Proof.Machine
end

