-- ==== Sys2Proof/Laws/Ops.lean ====
section
/-! SUPPORT. What each shared operation can do, said once: the provers cite these and do not unfold the operation. -/

namespace Sys2Proof.Machine

/-- The bounds check accepts an index in `0 .. MEM_SIZE-1`. -/
theorem State.memCheck_ok {s : State} {i : Int} (h0 : 0 ≤ i) (h1 : i < s.memSize) : s.memCheck i = .ok i.toNat := by
  have : ¬ (i < 0 ∨ (s.memSize : Int) ≤ i) := by omega
  simp [State.memCheck, this]

/-- The bounds check refuses every other index. -/
theorem State.memCheck_error {s : State} {i : Int} (h : i < 0 ∨ (s.memSize : Int) ≤ i) :
    s.memCheck i = .error (.memoryFault i) := by
  simp [State.memCheck, h]

/-- A natural index in bounds. -/
theorem State.memCheck_nat_ok {s : State} {n : Nat} (h : n < s.memSize) : s.memCheck (n : Int) = .ok n := by
  have := State.memCheck_ok (s := s) (i := n) (by omega) (by omega)
  simpa using this

/-- A natural index out of bounds. -/
theorem State.memCheck_nat_error {s : State} {n : Nat} (h : s.memSize ≤ n) :
    s.memCheck (n : Int) = .error (.memoryFault n) :=
  State.memCheck_error (.inr (by omega))

/-- A data read of an integer cell in bounds. -/
theorem State.readData_int {s : State} {a : Nat} {v : Word} (h : s.effectiveAddress a < s.memSize)
    (hc : s.cellAt (s.effectiveAddress a) = .int v) : s.readData a = .ok v := by
  simp [State.readData, State.memRead, State.readCell, State.memCheck_nat_ok h, hc]

/-- A data read of a marker cell. -/
theorem State.readData_nonInt {s : State} {a : Nat} (h : s.effectiveAddress a < s.memSize)
    (hc : s.cellAt (s.effectiveAddress a) = .nonInt) :
    s.readData a = .error (.decodeError .dataNonInt (s.effectiveAddress a)) := by
  simp [State.readData, State.memRead, State.readCell, State.memCheck_nat_ok h, hc]

/-- A data read out of bounds. -/
theorem State.readData_outOfBounds {s : State} {a : Nat} (h : s.memSize ≤ s.effectiveAddress a) :
    s.readData a = .error (.memoryFault (s.effectiveAddress a)) := by
  simp [State.readData, State.memRead, State.readCell, State.memCheck_nat_error h]

/-- A data write in bounds. -/
theorem State.writeData_ok {s : State} {a : Nat} (v : Word) (h : s.effectiveAddress a < s.memSize) :
    s.writeData a v = .ok (s.putCell (s.effectiveAddress a) v) := by
  simp [State.writeData, State.memWrite, State.memCheck_nat_ok h]

/-- A data write out of bounds. -/
theorem State.writeData_error {s : State} {a : Nat} (v : Word) (h : s.memSize ≤ s.effectiveAddress a) :
    s.writeData a v = .error (.memoryFault (s.effectiveAddress a)) := by
  simp [State.writeData, State.memWrite, State.memCheck_nat_error h]

/-- A data write that answers a state wrote the one cell `EA(a)`, which is in bounds. -/
theorem State.writeData_cases {s t : State} {a : Nat} {v : Word} (h : s.writeData a v = .ok t) :
    s.effectiveAddress a < s.memSize ∧ t = s.putCell (s.effectiveAddress a) v := by
  rcases Nat.lt_or_ge (s.effectiveAddress a) s.memSize with hb | hb
  · rw [State.writeData_ok v hb] at h
    exact ⟨hb, (Except.ok.inj h).symm⟩
  · rw [State.writeData_error v hb] at h
    exact nomatch h

/-- `attempt` goes on with the value or raises the fatal condition. -/
theorem State.attempt_cases {α : Type} {s t : State} {r : Except FatalCondition α} {k : α → Result}
    (h : s.attempt r k = .next t) : (∃ a, r = .ok a ∧ k a = .next t) ∨ (∃ f, r = .error f ∧ t = s.setFault f) := by
  cases r with
  | ok a => exact .inl ⟨a, rfl, h⟩
  | error f => exact .inr ⟨f, rfl, (Host.Outcome.next.inj h).symm⟩

@[simp] theorem State.attempt_ok {α : Type} (s : State) (a : α) (k : α → Result) : s.attempt (.ok a) k = k a := rfl
@[simp] theorem State.attempt_error {α : Type} (s : State) (f : FatalCondition) (k : α → Result) :
    s.attempt (.error f) k = .next (s.setFault f) := rfl
@[simp] theorem State.raise_eq (s : State) (f : FatalCondition) : s.raise f = .next (s.setFault f) := rfl
@[simp] theorem State.advance_eq (s : State) : s.advance = .next (s.setPc (s.pc + 1#32)) := rfl
@[simp] theorem State.goTo_eq (s : State) (v : Word) : s.goTo v = .next (s.setPc v) := rfl
@[simp] theorem State.finishReg_eq (s : State) (i : RegIdx) (v : Word) :
    s.finishReg i v = .next ((s.writeReg i v).setPc (s.pc + 1#32)) := rfl

end Sys2Proof.Machine
end

