-- ==== Sys2Proof/Laws/Exec.lean ====
section
/-! SUPPORT. `exec` read by opcode: 28 cases in place of 111, for claims about all instructions. -/

namespace Sys2Proof.Machine

/-- The execute stage dispatched on the opcode's integer value (40_cycle R88). -/
def byOpcode (opcode : Nat) (D : Operands) (s : State) : Result :=
  match opcode with
  | 0 => opRd D s
  | 1 => opWr D s
  | 2 => opSt D s
  | 3 => opLw D s
  | 4 => opMov D s
  | 5 => opAdd D s
  | 6 => opSub D s
  | 7 => opMul D s
  | 8 => opDiv D s
  | 9 => opAnd D s
  | 10 => opOr D s
  | 11 => opMovi D s
  | 12 => opAddi D s
  | 13 => opMuli D s
  | 14 => opDivi D s
  | 15 => opLdi D s
  | 16 => opSlt D s
  | 17 => opSlti D s
  | 18 => opHlt D s
  | 19 => opNop D s
  | 20 => opJmp D s
  | 21 => opBeq D s
  | 22 => opBne D s
  | 23 => opBez D s
  | 24 => opBnz D s
  | 25 => opBgz D s
  | 26 => opBlz D s
  | _ => opUndefined s

theorem byOpcode_undefined {n : Nat} (h : 27 ≤ n) (D : Operands) (s : State) : byOpcode n D s = opUndefined s := by
  unfold byOpcode
  split <;> first | omega | rfl

/-- Every instruction is executed by its opcode's rule on the operands its Type supplies. -/
theorem exec_eq_byOpcode (i : Instr) (h : i.WellFormed) (s : State) :
    exec i s = byOpcode i.operandList.opcode.toNat i.operandList.operands s := by
  cases i with
  | undef28to31 type opcode operands =>
    simp only [Instr.WellFormed, Instr.wf, Bool.and_eq_true, decide_eq_true_eq] at h
    exact (byOpcode_undefined (by simp only [Instr.operandList]; omega) _ _).symm
  | undef32to63 type opcode operands =>
    simp only [Instr.WellFormed, Instr.wf, decide_eq_true_eq] at h
    exact (byOpcode_undefined (by simp only [Instr.operandList]; omega) _ _).symm
  | _ => rfl

end Sys2Proof.Machine
end

