-- ==== Sys2Proof/Laws/Frames.lean ====
section
/-! SUPPORT. The frames of the ways an instruction can end, each said once, and the frame of an instruction that reads
the data cell. A proof about an instruction shows by `rfl` which of these its meaning is, and cites the lemma. -/

namespace Sys2Proof

open Machine

theorem SameLaunch.refl (s : State) : SameLaunch s s := ⟨rfl, rfl, rfl⟩

theorem wroteReg_finishReg (s : State) (d : RegIdx) (v : Word) : WroteReg d v s ((s.writeReg d v).setPc (s.pc + 1#32)) :=
  ⟨by simp, fun r h => by simp [State.readReg_writeReg_ne s v h], fun _ => rfl, rfl, rfl, rfl, rfl, rfl⟩

theorem wroteCell_putCell (s : State) (a : Nat) (v : Word) :
    WroteCell a v s ((s.putCell a v).setPc (s.pc + 1#32)) :=
  ⟨by simp, fun n h => by simp [State.cellAt_putCell, h], fun _ => rfl, rfl, rfl, rfl, rfl, rfl⟩

theorem wentTo_setPc (s : State) (v : Word) : WentTo v s (s.setPc v) :=
  ⟨rfl, fun _ => rfl, fun _ => rfl, rfl, rfl, rfl, rfl⟩

theorem raisedOnly_setFault (s : State) (f : FatalCondition) : RaisedOnly f s (s.setFault f) :=
  ⟨rfl, rfl, fun _ => rfl, fun _ => rfl, rfl, rfl, rfl⟩

/-- Where no cell changed, whatever the instruction may store to. -/
theorem storesOnlyAtItsAddress_of_sameCells {i : Instr} {s t : State} (h : SameCells s t) :
    StoresOnlyAtItsAddress i s t := ⟨fun _ _ _ _ n _ => h n, fun _ => h⟩

theorem completes_finishReg {i : Instr} {s : State} {d : RegIdx} {v : Word} (h : exec i s = s.finishReg d v) :
    Completes i s (WroteReg d v) := ⟨_, h, wroteReg_finishReg s d v⟩

theorem completes_advance {i : Instr} {s : State} (h : exec i s = s.advance) : Completes i s (WentTo (s.pc + 1#32)) :=
  ⟨_, h, wentTo_setPc s _⟩

theorem completes_goTo {i : Instr} {s : State} {v : Word} (h : exec i s = s.goTo v) : Completes i s (WentTo v) :=
  ⟨_, h, wentTo_setPc s v⟩

theorem completes_raise {i : Instr} {s : State} {f : FatalCondition} (h : exec i s = s.raise f) :
    Completes i s (RaisedOnly f) := ⟨_, h, raisedOnly_setFault s f⟩

/-- An instruction that goes on with the data cell's value, or raises what the read raises. -/
theorem readsData_of {i : Instr} {s : State} {a : Nat} {k : Word → Result} {Q : Word → State → State → Prop}
    (h : exec i s = s.attempt (s.readData a) k) (hk : ∀ v, HoldsData s a v → ∃ t, k v = .next t ∧ Q v s t) :
    ReadsData i s a Q := by
  refine ⟨fun v hv => ?_, fun hm => ?_, fun ho => ?_⟩
  · obtain ⟨t, ht, hq⟩ := hk v hv
    exact ⟨t, by rw [h, State.readData_int hv.1 hv.2, State.attempt_ok, ht], hq⟩
  · exact ⟨_, by rw [h, State.readData_nonInt hm.1 hm.2, State.attempt_error], raisedOnly_setFault s _⟩
  · exact ⟨_, by rw [h, State.readData_outOfBounds ho, State.attempt_error], raisedOnly_setFault s _⟩

end Sys2Proof
end

