-- ==== Sys2Proof/Laws/PerInstr.lean ====
section
/-! SUPPORT. Statements about every instruction as syntax, one lemma per constructor. -/

namespace Sys2Proof.Laws.EncodesItsHeader

/-- The word of a well-formed instruction carries the Type and the opcode of the instruction's Operand List in
its header fields (30_encoding R61, R76). -/
def Statement (i : Instr) : Prop :=
  i.WellFormed → typeOf (encode i) = i.operandList.type ∧ opcodeOf (encode i) = i.operandList.opcode

theorem rdT0 (reg1 reg2 reg3 : RegIdx) (address : BitVec 4) : Statement (.rdT0 reg1 reg2 reg3 address) :=
  fun _ => header_encode0 _ _ _ _ _

theorem rdT1 (reg1 reg2 : RegIdx) (address : BitVec 16) : Statement (.rdT1 reg1 reg2 address) :=
  fun _ => header_encode1 _ _ _ _

theorem rdT2 (address : BitVec 24) : Statement (.rdT2 address) :=
  fun _ => header_encode2 _ _

theorem rdT3 (reg1 reg2 : RegIdx) (address : BitVec 16) : Statement (.rdT3 reg1 reg2 address) :=
  fun _ => header_encode3 _ _ _ _

theorem wrT0 (reg1 reg2 reg3 : RegIdx) (address : BitVec 4) : Statement (.wrT0 reg1 reg2 reg3 address) :=
  fun _ => header_encode0 _ _ _ _ _

theorem wrT1 (reg1 reg2 : RegIdx) (address : BitVec 16) : Statement (.wrT1 reg1 reg2 address) :=
  fun _ => header_encode1 _ _ _ _

theorem wrT2 (address : BitVec 24) : Statement (.wrT2 address) :=
  fun _ => header_encode2 _ _

theorem wrT3 (reg1 reg2 : RegIdx) (address : BitVec 16) : Statement (.wrT3 reg1 reg2 address) :=
  fun _ => header_encode3 _ _ _ _

theorem stT0 (reg1 reg2 reg3 : RegIdx) (address : BitVec 4) : Statement (.stT0 reg1 reg2 reg3 address) :=
  fun _ => header_encode0 _ _ _ _ _

theorem stT1 (reg1 reg2 : RegIdx) (address : BitVec 16) : Statement (.stT1 reg1 reg2 address) :=
  fun _ => header_encode1 _ _ _ _

theorem stT2 (address : BitVec 24) : Statement (.stT2 address) :=
  fun _ => header_encode2 _ _

theorem stT3 (reg1 reg2 : RegIdx) (address : BitVec 16) : Statement (.stT3 reg1 reg2 address) :=
  fun _ => header_encode3 _ _ _ _

theorem lwT0 (reg1 reg2 reg3 : RegIdx) (address : BitVec 4) : Statement (.lwT0 reg1 reg2 reg3 address) :=
  fun _ => header_encode0 _ _ _ _ _

theorem lwT1 (reg1 reg2 : RegIdx) (address : BitVec 16) : Statement (.lwT1 reg1 reg2 address) :=
  fun _ => header_encode1 _ _ _ _

theorem lwT2 (address : BitVec 24) : Statement (.lwT2 address) :=
  fun _ => header_encode2 _ _

theorem lwT3 (reg1 reg2 : RegIdx) (address : BitVec 16) : Statement (.lwT3 reg1 reg2 address) :=
  fun _ => header_encode3 _ _ _ _

theorem movT0 (reg1 reg2 reg3 : RegIdx) (address : BitVec 4) : Statement (.movT0 reg1 reg2 reg3 address) :=
  fun _ => header_encode0 _ _ _ _ _

theorem movT1 (reg1 reg2 : RegIdx) (address : BitVec 16) : Statement (.movT1 reg1 reg2 address) :=
  fun _ => header_encode1 _ _ _ _

theorem movT2 (address : BitVec 24) : Statement (.movT2 address) :=
  fun _ => header_encode2 _ _

theorem movT3 (reg1 reg2 : RegIdx) (address : BitVec 16) : Statement (.movT3 reg1 reg2 address) :=
  fun _ => header_encode3 _ _ _ _

theorem addT0 (reg1 reg2 reg3 : RegIdx) (address : BitVec 4) : Statement (.addT0 reg1 reg2 reg3 address) :=
  fun _ => header_encode0 _ _ _ _ _

theorem addT1 (reg1 reg2 : RegIdx) (address : BitVec 16) : Statement (.addT1 reg1 reg2 address) :=
  fun _ => header_encode1 _ _ _ _

theorem addT2 (address : BitVec 24) : Statement (.addT2 address) :=
  fun _ => header_encode2 _ _

theorem addT3 (reg1 reg2 : RegIdx) (address : BitVec 16) : Statement (.addT3 reg1 reg2 address) :=
  fun _ => header_encode3 _ _ _ _

theorem subT0 (reg1 reg2 reg3 : RegIdx) (address : BitVec 4) : Statement (.subT0 reg1 reg2 reg3 address) :=
  fun _ => header_encode0 _ _ _ _ _

theorem subT1 (reg1 reg2 : RegIdx) (address : BitVec 16) : Statement (.subT1 reg1 reg2 address) :=
  fun _ => header_encode1 _ _ _ _

theorem subT2 (address : BitVec 24) : Statement (.subT2 address) :=
  fun _ => header_encode2 _ _

theorem subT3 (reg1 reg2 : RegIdx) (address : BitVec 16) : Statement (.subT3 reg1 reg2 address) :=
  fun _ => header_encode3 _ _ _ _

theorem mulT0 (reg1 reg2 reg3 : RegIdx) (address : BitVec 4) : Statement (.mulT0 reg1 reg2 reg3 address) :=
  fun _ => header_encode0 _ _ _ _ _

theorem mulT1 (reg1 reg2 : RegIdx) (address : BitVec 16) : Statement (.mulT1 reg1 reg2 address) :=
  fun _ => header_encode1 _ _ _ _

theorem mulT2 (address : BitVec 24) : Statement (.mulT2 address) :=
  fun _ => header_encode2 _ _

theorem mulT3 (reg1 reg2 : RegIdx) (address : BitVec 16) : Statement (.mulT3 reg1 reg2 address) :=
  fun _ => header_encode3 _ _ _ _

theorem divT0 (reg1 reg2 reg3 : RegIdx) (address : BitVec 4) : Statement (.divT0 reg1 reg2 reg3 address) :=
  fun _ => header_encode0 _ _ _ _ _

theorem divT1 (reg1 reg2 : RegIdx) (address : BitVec 16) : Statement (.divT1 reg1 reg2 address) :=
  fun _ => header_encode1 _ _ _ _

theorem divT2 (address : BitVec 24) : Statement (.divT2 address) :=
  fun _ => header_encode2 _ _

theorem divT3 (reg1 reg2 : RegIdx) (address : BitVec 16) : Statement (.divT3 reg1 reg2 address) :=
  fun _ => header_encode3 _ _ _ _

theorem andT0 (reg1 reg2 reg3 : RegIdx) (address : BitVec 4) : Statement (.andT0 reg1 reg2 reg3 address) :=
  fun _ => header_encode0 _ _ _ _ _

theorem andT1 (reg1 reg2 : RegIdx) (address : BitVec 16) : Statement (.andT1 reg1 reg2 address) :=
  fun _ => header_encode1 _ _ _ _

theorem andT2 (address : BitVec 24) : Statement (.andT2 address) :=
  fun _ => header_encode2 _ _

theorem andT3 (reg1 reg2 : RegIdx) (address : BitVec 16) : Statement (.andT3 reg1 reg2 address) :=
  fun _ => header_encode3 _ _ _ _

theorem orT0 (reg1 reg2 reg3 : RegIdx) (address : BitVec 4) : Statement (.orT0 reg1 reg2 reg3 address) :=
  fun _ => header_encode0 _ _ _ _ _

theorem orT1 (reg1 reg2 : RegIdx) (address : BitVec 16) : Statement (.orT1 reg1 reg2 address) :=
  fun _ => header_encode1 _ _ _ _

theorem orT2 (address : BitVec 24) : Statement (.orT2 address) :=
  fun _ => header_encode2 _ _

theorem orT3 (reg1 reg2 : RegIdx) (address : BitVec 16) : Statement (.orT3 reg1 reg2 address) :=
  fun _ => header_encode3 _ _ _ _

theorem moviT0 (reg1 reg2 reg3 : RegIdx) (address : BitVec 4) : Statement (.moviT0 reg1 reg2 reg3 address) :=
  fun _ => header_encode0 _ _ _ _ _

theorem moviT1 (reg1 reg2 : RegIdx) (address : BitVec 16) : Statement (.moviT1 reg1 reg2 address) :=
  fun _ => header_encode1 _ _ _ _

theorem moviT2 (address : BitVec 24) : Statement (.moviT2 address) :=
  fun _ => header_encode2 _ _

theorem moviT3 (reg1 reg2 : RegIdx) (address : BitVec 16) : Statement (.moviT3 reg1 reg2 address) :=
  fun _ => header_encode3 _ _ _ _

theorem addiT0 (reg1 reg2 reg3 : RegIdx) (address : BitVec 4) : Statement (.addiT0 reg1 reg2 reg3 address) :=
  fun _ => header_encode0 _ _ _ _ _

theorem addiT1 (reg1 reg2 : RegIdx) (address : BitVec 16) : Statement (.addiT1 reg1 reg2 address) :=
  fun _ => header_encode1 _ _ _ _

theorem addiT2 (address : BitVec 24) : Statement (.addiT2 address) :=
  fun _ => header_encode2 _ _

theorem addiT3 (reg1 reg2 : RegIdx) (address : BitVec 16) : Statement (.addiT3 reg1 reg2 address) :=
  fun _ => header_encode3 _ _ _ _

theorem muliT0 (reg1 reg2 reg3 : RegIdx) (address : BitVec 4) : Statement (.muliT0 reg1 reg2 reg3 address) :=
  fun _ => header_encode0 _ _ _ _ _

theorem muliT1 (reg1 reg2 : RegIdx) (address : BitVec 16) : Statement (.muliT1 reg1 reg2 address) :=
  fun _ => header_encode1 _ _ _ _

theorem muliT2 (address : BitVec 24) : Statement (.muliT2 address) :=
  fun _ => header_encode2 _ _

theorem muliT3 (reg1 reg2 : RegIdx) (address : BitVec 16) : Statement (.muliT3 reg1 reg2 address) :=
  fun _ => header_encode3 _ _ _ _

theorem diviT0 (reg1 reg2 reg3 : RegIdx) (address : BitVec 4) : Statement (.diviT0 reg1 reg2 reg3 address) :=
  fun _ => header_encode0 _ _ _ _ _

theorem diviT1 (reg1 reg2 : RegIdx) (address : BitVec 16) : Statement (.diviT1 reg1 reg2 address) :=
  fun _ => header_encode1 _ _ _ _

theorem diviT2 (address : BitVec 24) : Statement (.diviT2 address) :=
  fun _ => header_encode2 _ _

theorem diviT3 (reg1 reg2 : RegIdx) (address : BitVec 16) : Statement (.diviT3 reg1 reg2 address) :=
  fun _ => header_encode3 _ _ _ _

theorem ldiT0 (reg1 reg2 reg3 : RegIdx) (address : BitVec 4) : Statement (.ldiT0 reg1 reg2 reg3 address) :=
  fun _ => header_encode0 _ _ _ _ _

theorem ldiT1 (reg1 reg2 : RegIdx) (address : BitVec 16) : Statement (.ldiT1 reg1 reg2 address) :=
  fun _ => header_encode1 _ _ _ _

theorem ldiT2 (address : BitVec 24) : Statement (.ldiT2 address) :=
  fun _ => header_encode2 _ _

theorem ldiT3 (reg1 reg2 : RegIdx) (address : BitVec 16) : Statement (.ldiT3 reg1 reg2 address) :=
  fun _ => header_encode3 _ _ _ _

theorem sltT0 (reg1 reg2 reg3 : RegIdx) (address : BitVec 4) : Statement (.sltT0 reg1 reg2 reg3 address) :=
  fun _ => header_encode0 _ _ _ _ _

theorem sltT1 (reg1 reg2 : RegIdx) (address : BitVec 16) : Statement (.sltT1 reg1 reg2 address) :=
  fun _ => header_encode1 _ _ _ _

theorem sltT2 (address : BitVec 24) : Statement (.sltT2 address) :=
  fun _ => header_encode2 _ _

theorem sltT3 (reg1 reg2 : RegIdx) (address : BitVec 16) : Statement (.sltT3 reg1 reg2 address) :=
  fun _ => header_encode3 _ _ _ _

theorem sltiT0 (reg1 reg2 reg3 : RegIdx) (address : BitVec 4) : Statement (.sltiT0 reg1 reg2 reg3 address) :=
  fun _ => header_encode0 _ _ _ _ _

theorem sltiT1 (reg1 reg2 : RegIdx) (address : BitVec 16) : Statement (.sltiT1 reg1 reg2 address) :=
  fun _ => header_encode1 _ _ _ _

theorem sltiT2 (address : BitVec 24) : Statement (.sltiT2 address) :=
  fun _ => header_encode2 _ _

theorem sltiT3 (reg1 reg2 : RegIdx) (address : BitVec 16) : Statement (.sltiT3 reg1 reg2 address) :=
  fun _ => header_encode3 _ _ _ _

theorem hltT0 (reg1 reg2 reg3 : RegIdx) (address : BitVec 4) : Statement (.hltT0 reg1 reg2 reg3 address) :=
  fun _ => header_encode0 _ _ _ _ _

theorem hltT1 (reg1 reg2 : RegIdx) (address : BitVec 16) : Statement (.hltT1 reg1 reg2 address) :=
  fun _ => header_encode1 _ _ _ _

theorem hltT2 (address : BitVec 24) : Statement (.hltT2 address) :=
  fun _ => header_encode2 _ _

theorem hltT3 (reg1 reg2 : RegIdx) (address : BitVec 16) : Statement (.hltT3 reg1 reg2 address) :=
  fun _ => header_encode3 _ _ _ _

theorem nopT0 (reg1 reg2 reg3 : RegIdx) (address : BitVec 4) : Statement (.nopT0 reg1 reg2 reg3 address) :=
  fun _ => header_encode0 _ _ _ _ _

theorem nopT1 (reg1 reg2 : RegIdx) (address : BitVec 16) : Statement (.nopT1 reg1 reg2 address) :=
  fun _ => header_encode1 _ _ _ _

theorem nopT2 (address : BitVec 24) : Statement (.nopT2 address) :=
  fun _ => header_encode2 _ _

theorem nopT3 (reg1 reg2 : RegIdx) (address : BitVec 16) : Statement (.nopT3 reg1 reg2 address) :=
  fun _ => header_encode3 _ _ _ _

theorem jmpT0 (reg1 reg2 reg3 : RegIdx) (address : BitVec 4) : Statement (.jmpT0 reg1 reg2 reg3 address) :=
  fun _ => header_encode0 _ _ _ _ _

theorem jmpT1 (reg1 reg2 : RegIdx) (address : BitVec 16) : Statement (.jmpT1 reg1 reg2 address) :=
  fun _ => header_encode1 _ _ _ _

theorem jmpT2 (address : BitVec 24) : Statement (.jmpT2 address) :=
  fun _ => header_encode2 _ _

theorem jmpT3 (reg1 reg2 : RegIdx) (address : BitVec 16) : Statement (.jmpT3 reg1 reg2 address) :=
  fun _ => header_encode3 _ _ _ _

theorem beqT0 (reg1 reg2 reg3 : RegIdx) (address : BitVec 4) : Statement (.beqT0 reg1 reg2 reg3 address) :=
  fun _ => header_encode0 _ _ _ _ _

theorem beqT1 (reg1 reg2 : RegIdx) (address : BitVec 16) : Statement (.beqT1 reg1 reg2 address) :=
  fun _ => header_encode1 _ _ _ _

theorem beqT2 (address : BitVec 24) : Statement (.beqT2 address) :=
  fun _ => header_encode2 _ _

theorem beqT3 (reg1 reg2 : RegIdx) (address : BitVec 16) : Statement (.beqT3 reg1 reg2 address) :=
  fun _ => header_encode3 _ _ _ _

theorem bneT0 (reg1 reg2 reg3 : RegIdx) (address : BitVec 4) : Statement (.bneT0 reg1 reg2 reg3 address) :=
  fun _ => header_encode0 _ _ _ _ _

theorem bneT1 (reg1 reg2 : RegIdx) (address : BitVec 16) : Statement (.bneT1 reg1 reg2 address) :=
  fun _ => header_encode1 _ _ _ _

theorem bneT2 (address : BitVec 24) : Statement (.bneT2 address) :=
  fun _ => header_encode2 _ _

theorem bneT3 (reg1 reg2 : RegIdx) (address : BitVec 16) : Statement (.bneT3 reg1 reg2 address) :=
  fun _ => header_encode3 _ _ _ _

theorem bezT0 (reg1 reg2 reg3 : RegIdx) (address : BitVec 4) : Statement (.bezT0 reg1 reg2 reg3 address) :=
  fun _ => header_encode0 _ _ _ _ _

theorem bezT1 (reg1 reg2 : RegIdx) (address : BitVec 16) : Statement (.bezT1 reg1 reg2 address) :=
  fun _ => header_encode1 _ _ _ _

theorem bezT2 (address : BitVec 24) : Statement (.bezT2 address) :=
  fun _ => header_encode2 _ _

theorem bezT3 (reg1 reg2 : RegIdx) (address : BitVec 16) : Statement (.bezT3 reg1 reg2 address) :=
  fun _ => header_encode3 _ _ _ _

theorem bnzT0 (reg1 reg2 reg3 : RegIdx) (address : BitVec 4) : Statement (.bnzT0 reg1 reg2 reg3 address) :=
  fun _ => header_encode0 _ _ _ _ _

theorem bnzT1 (reg1 reg2 : RegIdx) (address : BitVec 16) : Statement (.bnzT1 reg1 reg2 address) :=
  fun _ => header_encode1 _ _ _ _

theorem bnzT2 (address : BitVec 24) : Statement (.bnzT2 address) :=
  fun _ => header_encode2 _ _

theorem bnzT3 (reg1 reg2 : RegIdx) (address : BitVec 16) : Statement (.bnzT3 reg1 reg2 address) :=
  fun _ => header_encode3 _ _ _ _

theorem bgzT0 (reg1 reg2 reg3 : RegIdx) (address : BitVec 4) : Statement (.bgzT0 reg1 reg2 reg3 address) :=
  fun _ => header_encode0 _ _ _ _ _

theorem bgzT1 (reg1 reg2 : RegIdx) (address : BitVec 16) : Statement (.bgzT1 reg1 reg2 address) :=
  fun _ => header_encode1 _ _ _ _

theorem bgzT2 (address : BitVec 24) : Statement (.bgzT2 address) :=
  fun _ => header_encode2 _ _

theorem bgzT3 (reg1 reg2 : RegIdx) (address : BitVec 16) : Statement (.bgzT3 reg1 reg2 address) :=
  fun _ => header_encode3 _ _ _ _

theorem blzT0 (reg1 reg2 reg3 : RegIdx) (address : BitVec 4) : Statement (.blzT0 reg1 reg2 reg3 address) :=
  fun _ => header_encode0 _ _ _ _ _

theorem blzT1 (reg1 reg2 : RegIdx) (address : BitVec 16) : Statement (.blzT1 reg1 reg2 address) :=
  fun _ => header_encode1 _ _ _ _

theorem blzT2 (address : BitVec 24) : Statement (.blzT2 address) :=
  fun _ => header_encode2 _ _

theorem blzT3 (reg1 reg2 : RegIdx) (address : BitVec 16) : Statement (.blzT3 reg1 reg2 address) :=
  fun _ => header_encode3 _ _ _ _

theorem undef27 (type : BitVec 2) (operands : BitVec 24) : Statement (.undef27 type operands) :=
  fun _ => header_encodeUndef _ _ _

theorem undef28to31 (type : BitVec 2) (opcode : BitVec 6) (operands : BitVec 24) : Statement (.undef28to31 type opcode operands) :=
  fun _ => header_encodeUndef _ _ _

theorem undef32to63 (type : BitVec 2) (opcode : BitVec 6) (operands : BitVec 24) : Statement (.undef32to63 type opcode operands) :=
  fun _ => header_encodeUndef _ _ _

end Sys2Proof.Laws.EncodesItsHeader
end

