-- ==== Sys2Proof/Tests/Slice0.lean ====
section
/-! SUPPORT. The model's own tests. Words are written out from the tables of 30_encoding R61, R62 and R66; the
expected results of steps are those of 95_test_vectors (the row is named beside each), and no test's expectation was
taken from the model. The last part holds, for each obligation with hypotheses, a witness of every clause. -/

namespace Sys2Proof.Tests

open Machine

/-! ## Well-formedness: an ill-formed term for each check -/

theorem test_wf_refuses_undef28to31_below_its_range : Instr.wf (.undef28to31 0 27 0) = false := by decide
theorem test_wf_refuses_undef28to31_above_its_range : Instr.wf (.undef28to31 3 32 0) = false := by decide
theorem test_wf_refuses_undef32to63_below_its_range : Instr.wf (.undef32to63 1 31 5) = false := by decide
theorem test_wf_accepts_the_ends_of_the_ranges :
    Instr.wf (.undef28to31 0 28 0) = true ∧ Instr.wf (.undef28to31 2 31 7) = true ∧
    Instr.wf (.undef32to63 1 32 0) = true ∧ Instr.wf (.undef32to63 3 63 7) = true := by
  decide

/-! ## Decode and encode, every constructor: Type, Opcode and fields written bit by bit, the last eight bits of a
Type 0 word being spare -/

theorem test_decode_rd :
    decode 0b00_000000_0001_0110_0010_1001_10100000 = .rdT0 1 6 2 9 ∧ encode (.rdT0 1 6 2 9) = 0b00_000000_0001_0110_0010_1001_00000000 ∧
    decode 0b01_000000_0001_0110_1000000000000001 = .rdT1 1 6 32769 ∧ encode (.rdT1 1 6 32769) = 0b01_000000_0001_0110_1000000000000001 ∧
    decode 0b10_000000_100000000000000000000001 = .rdT2 8388609 ∧ encode (.rdT2 8388609) = 0b10_000000_100000000000000000000001 ∧
    decode 0b11_000000_0110_0001_0111111111111110 = .rdT3 6 1 32766 ∧ encode (.rdT3 6 1 32766) = 0b11_000000_0110_0001_0111111111111110 := by
  decide

theorem test_decode_wr :
    decode 0b00_000001_0010_0111_0101_1110_10100001 = .wrT0 2 7 5 14 ∧ encode (.wrT0 2 7 5 14) = 0b00_000001_0010_0111_0101_1110_00000000 ∧
    decode 0b01_000001_0010_0111_1000000100000010 = .wrT1 2 7 33026 ∧ encode (.wrT1 2 7 33026) = 0b01_000001_0010_0111_1000000100000010 ∧
    decode 0b10_000001_100000000001000000010001 = .wrT2 8392721 ∧ encode (.wrT2 8392721) = 0b10_000001_100000000001000000010001 ∧
    decode 0b11_000001_0111_0010_0111111011111101 = .wrT3 7 2 32509 ∧ encode (.wrT3 7 2 32509) = 0b11_000001_0111_0010_0111111011111101 := by
  decide

theorem test_decode_st :
    decode 0b00_000010_0011_1000_1000_0011_10100010 = .stT0 3 8 8 3 ∧ encode (.stT0 3 8 8 3) = 0b00_000010_0011_1000_1000_0011_00000000 ∧
    decode 0b01_000010_0011_1000_1000001000000011 = .stT1 3 8 33283 ∧ encode (.stT1 3 8 33283) = 0b01_000010_0011_1000_1000001000000011 ∧
    decode 0b10_000010_100000000010000000100001 = .stT2 8396833 ∧ encode (.stT2 8396833) = 0b10_000010_100000000010000000100001 ∧
    decode 0b11_000010_1000_0011_0111110111111100 = .stT3 8 3 32252 ∧ encode (.stT3 8 3 32252) = 0b11_000010_1000_0011_0111110111111100 := by
  decide

theorem test_decode_lw :
    decode 0b00_000011_0100_1001_1011_1000_10100011 = .lwT0 4 9 11 8 ∧ encode (.lwT0 4 9 11 8) = 0b00_000011_0100_1001_1011_1000_00000000 ∧
    decode 0b01_000011_0100_1001_1000001100000100 = .lwT1 4 9 33540 ∧ encode (.lwT1 4 9 33540) = 0b01_000011_0100_1001_1000001100000100 ∧
    decode 0b10_000011_100000000011000000110001 = .lwT2 8400945 ∧ encode (.lwT2 8400945) = 0b10_000011_100000000011000000110001 ∧
    decode 0b11_000011_1001_0100_0111110011111011 = .lwT3 9 4 31995 ∧ encode (.lwT3 9 4 31995) = 0b11_000011_1001_0100_0111110011111011 := by
  decide

theorem test_decode_mov :
    decode 0b00_000100_0101_1010_1110_1101_10100100 = .movT0 5 10 14 13 ∧ encode (.movT0 5 10 14 13) = 0b00_000100_0101_1010_1110_1101_00000000 ∧
    decode 0b01_000100_0101_1010_1000010000000101 = .movT1 5 10 33797 ∧ encode (.movT1 5 10 33797) = 0b01_000100_0101_1010_1000010000000101 ∧
    decode 0b10_000100_100000000100000001000001 = .movT2 8405057 ∧ encode (.movT2 8405057) = 0b10_000100_100000000100000001000001 ∧
    decode 0b11_000100_1010_0101_0111101111111010 = .movT3 10 5 31738 ∧ encode (.movT3 10 5 31738) = 0b11_000100_1010_0101_0111101111111010 := by
  decide

theorem test_decode_add :
    decode 0b00_000101_0110_1011_0001_0010_10100101 = .addT0 6 11 1 2 ∧ encode (.addT0 6 11 1 2) = 0b00_000101_0110_1011_0001_0010_00000000 ∧
    decode 0b01_000101_0110_1011_1000010100000110 = .addT1 6 11 34054 ∧ encode (.addT1 6 11 34054) = 0b01_000101_0110_1011_1000010100000110 ∧
    decode 0b10_000101_100000000101000001010001 = .addT2 8409169 ∧ encode (.addT2 8409169) = 0b10_000101_100000000101000001010001 ∧
    decode 0b11_000101_1011_0110_0111101011111001 = .addT3 11 6 31481 ∧ encode (.addT3 11 6 31481) = 0b11_000101_1011_0110_0111101011111001 := by
  decide

theorem test_decode_sub :
    decode 0b00_000110_0111_1100_0100_0111_10100110 = .subT0 7 12 4 7 ∧ encode (.subT0 7 12 4 7) = 0b00_000110_0111_1100_0100_0111_00000000 ∧
    decode 0b01_000110_0111_1100_1000011000000111 = .subT1 7 12 34311 ∧ encode (.subT1 7 12 34311) = 0b01_000110_0111_1100_1000011000000111 ∧
    decode 0b10_000110_100000000110000001100001 = .subT2 8413281 ∧ encode (.subT2 8413281) = 0b10_000110_100000000110000001100001 ∧
    decode 0b11_000110_1100_0111_0111100111111000 = .subT3 12 7 31224 ∧ encode (.subT3 12 7 31224) = 0b11_000110_1100_0111_0111100111111000 := by
  decide

theorem test_decode_mul :
    decode 0b00_000111_1000_1101_0111_1100_10100111 = .mulT0 8 13 7 12 ∧ encode (.mulT0 8 13 7 12) = 0b00_000111_1000_1101_0111_1100_00000000 ∧
    decode 0b01_000111_1000_1101_1000011100001000 = .mulT1 8 13 34568 ∧ encode (.mulT1 8 13 34568) = 0b01_000111_1000_1101_1000011100001000 ∧
    decode 0b10_000111_100000000111000001110001 = .mulT2 8417393 ∧ encode (.mulT2 8417393) = 0b10_000111_100000000111000001110001 ∧
    decode 0b11_000111_1101_1000_0111100011110111 = .mulT3 13 8 30967 ∧ encode (.mulT3 13 8 30967) = 0b11_000111_1101_1000_0111100011110111 := by
  decide

theorem test_decode_div :
    decode 0b00_001000_1001_1110_1010_0001_10101000 = .divT0 9 14 10 1 ∧ encode (.divT0 9 14 10 1) = 0b00_001000_1001_1110_1010_0001_00000000 ∧
    decode 0b01_001000_1001_1110_1000100000001001 = .divT1 9 14 34825 ∧ encode (.divT1 9 14 34825) = 0b01_001000_1001_1110_1000100000001001 ∧
    decode 0b10_001000_100000001000000010000001 = .divT2 8421505 ∧ encode (.divT2 8421505) = 0b10_001000_100000001000000010000001 ∧
    decode 0b11_001000_1110_1001_0111011111110110 = .divT3 14 9 30710 ∧ encode (.divT3 14 9 30710) = 0b11_001000_1110_1001_0111011111110110 := by
  decide

theorem test_decode_and :
    decode 0b00_001001_1010_1111_1101_0110_10101001 = .andT0 10 15 13 6 ∧ encode (.andT0 10 15 13 6) = 0b00_001001_1010_1111_1101_0110_00000000 ∧
    decode 0b01_001001_1010_1111_1000100100001010 = .andT1 10 15 35082 ∧ encode (.andT1 10 15 35082) = 0b01_001001_1010_1111_1000100100001010 ∧
    decode 0b10_001001_100000001001000010010001 = .andT2 8425617 ∧ encode (.andT2 8425617) = 0b10_001001_100000001001000010010001 ∧
    decode 0b11_001001_1111_1010_0111011011110101 = .andT3 15 10 30453 ∧ encode (.andT3 15 10 30453) = 0b11_001001_1111_1010_0111011011110101 := by
  decide

theorem test_decode_or :
    decode 0b00_001010_1011_0000_0000_1011_10101010 = .orT0 11 0 0 11 ∧ encode (.orT0 11 0 0 11) = 0b00_001010_1011_0000_0000_1011_00000000 ∧
    decode 0b01_001010_1011_0000_1000101000001011 = .orT1 11 0 35339 ∧ encode (.orT1 11 0 35339) = 0b01_001010_1011_0000_1000101000001011 ∧
    decode 0b10_001010_100000001010000010100001 = .orT2 8429729 ∧ encode (.orT2 8429729) = 0b10_001010_100000001010000010100001 ∧
    decode 0b11_001010_0000_1011_0111010111110100 = .orT3 0 11 30196 ∧ encode (.orT3 0 11 30196) = 0b11_001010_0000_1011_0111010111110100 := by
  decide

theorem test_decode_movi :
    decode 0b00_001011_1100_0001_0011_0000_10101011 = .moviT0 12 1 3 0 ∧ encode (.moviT0 12 1 3 0) = 0b00_001011_1100_0001_0011_0000_00000000 ∧
    decode 0b01_001011_1100_0001_1000101100001100 = .moviT1 12 1 35596 ∧ encode (.moviT1 12 1 35596) = 0b01_001011_1100_0001_1000101100001100 ∧
    decode 0b10_001011_100000001011000010110001 = .moviT2 8433841 ∧ encode (.moviT2 8433841) = 0b10_001011_100000001011000010110001 ∧
    decode 0b11_001011_0001_1100_0111010011110011 = .moviT3 1 12 29939 ∧ encode (.moviT3 1 12 29939) = 0b11_001011_0001_1100_0111010011110011 := by
  decide

theorem test_decode_addi :
    decode 0b00_001100_1101_0010_0110_0101_10101100 = .addiT0 13 2 6 5 ∧ encode (.addiT0 13 2 6 5) = 0b00_001100_1101_0010_0110_0101_00000000 ∧
    decode 0b01_001100_1101_0010_1000110000001101 = .addiT1 13 2 35853 ∧ encode (.addiT1 13 2 35853) = 0b01_001100_1101_0010_1000110000001101 ∧
    decode 0b10_001100_100000001100000011000001 = .addiT2 8437953 ∧ encode (.addiT2 8437953) = 0b10_001100_100000001100000011000001 ∧
    decode 0b11_001100_0010_1101_0111001111110010 = .addiT3 2 13 29682 ∧ encode (.addiT3 2 13 29682) = 0b11_001100_0010_1101_0111001111110010 := by
  decide

theorem test_decode_muli :
    decode 0b00_001101_1110_0011_1001_1010_10101101 = .muliT0 14 3 9 10 ∧ encode (.muliT0 14 3 9 10) = 0b00_001101_1110_0011_1001_1010_00000000 ∧
    decode 0b01_001101_1110_0011_1000110100001110 = .muliT1 14 3 36110 ∧ encode (.muliT1 14 3 36110) = 0b01_001101_1110_0011_1000110100001110 ∧
    decode 0b10_001101_100000001101000011010001 = .muliT2 8442065 ∧ encode (.muliT2 8442065) = 0b10_001101_100000001101000011010001 ∧
    decode 0b11_001101_0011_1110_0111001011110001 = .muliT3 3 14 29425 ∧ encode (.muliT3 3 14 29425) = 0b11_001101_0011_1110_0111001011110001 := by
  decide

theorem test_decode_divi :
    decode 0b00_001110_1111_0100_1100_1111_10101110 = .diviT0 15 4 12 15 ∧ encode (.diviT0 15 4 12 15) = 0b00_001110_1111_0100_1100_1111_00000000 ∧
    decode 0b01_001110_1111_0100_1000111000001111 = .diviT1 15 4 36367 ∧ encode (.diviT1 15 4 36367) = 0b01_001110_1111_0100_1000111000001111 ∧
    decode 0b10_001110_100000001110000011100001 = .diviT2 8446177 ∧ encode (.diviT2 8446177) = 0b10_001110_100000001110000011100001 ∧
    decode 0b11_001110_0100_1111_0111000111110000 = .diviT3 4 15 29168 ∧ encode (.diviT3 4 15 29168) = 0b11_001110_0100_1111_0111000111110000 := by
  decide

theorem test_decode_ldi :
    decode 0b00_001111_0000_0101_1111_0100_10101111 = .ldiT0 0 5 15 4 ∧ encode (.ldiT0 0 5 15 4) = 0b00_001111_0000_0101_1111_0100_00000000 ∧
    decode 0b01_001111_0000_0101_1000111100010000 = .ldiT1 0 5 36624 ∧ encode (.ldiT1 0 5 36624) = 0b01_001111_0000_0101_1000111100010000 ∧
    decode 0b10_001111_100000001111000011110001 = .ldiT2 8450289 ∧ encode (.ldiT2 8450289) = 0b10_001111_100000001111000011110001 ∧
    decode 0b11_001111_0101_0000_0111000011101111 = .ldiT3 5 0 28911 ∧ encode (.ldiT3 5 0 28911) = 0b11_001111_0101_0000_0111000011101111 := by
  decide

theorem test_decode_slt :
    decode 0b00_010000_0001_0110_0010_1001_10110000 = .sltT0 1 6 2 9 ∧ encode (.sltT0 1 6 2 9) = 0b00_010000_0001_0110_0010_1001_00000000 ∧
    decode 0b01_010000_0001_0110_1001000000010001 = .sltT1 1 6 36881 ∧ encode (.sltT1 1 6 36881) = 0b01_010000_0001_0110_1001000000010001 ∧
    decode 0b10_010000_100000010000000100000001 = .sltT2 8454401 ∧ encode (.sltT2 8454401) = 0b10_010000_100000010000000100000001 ∧
    decode 0b11_010000_0110_0001_0110111111101110 = .sltT3 6 1 28654 ∧ encode (.sltT3 6 1 28654) = 0b11_010000_0110_0001_0110111111101110 := by
  decide

theorem test_decode_slti :
    decode 0b00_010001_0010_0111_0101_1110_10110001 = .sltiT0 2 7 5 14 ∧ encode (.sltiT0 2 7 5 14) = 0b00_010001_0010_0111_0101_1110_00000000 ∧
    decode 0b01_010001_0010_0111_1001000100010010 = .sltiT1 2 7 37138 ∧ encode (.sltiT1 2 7 37138) = 0b01_010001_0010_0111_1001000100010010 ∧
    decode 0b10_010001_100000010001000100010001 = .sltiT2 8458513 ∧ encode (.sltiT2 8458513) = 0b10_010001_100000010001000100010001 ∧
    decode 0b11_010001_0111_0010_0110111011101101 = .sltiT3 7 2 28397 ∧ encode (.sltiT3 7 2 28397) = 0b11_010001_0111_0010_0110111011101101 := by
  decide

theorem test_decode_hlt :
    decode 0b00_010010_0011_1000_1000_0011_10110010 = .hltT0 3 8 8 3 ∧ encode (.hltT0 3 8 8 3) = 0b00_010010_0011_1000_1000_0011_00000000 ∧
    decode 0b01_010010_0011_1000_1001001000010011 = .hltT1 3 8 37395 ∧ encode (.hltT1 3 8 37395) = 0b01_010010_0011_1000_1001001000010011 ∧
    decode 0b10_010010_100000010010000100100001 = .hltT2 8462625 ∧ encode (.hltT2 8462625) = 0b10_010010_100000010010000100100001 ∧
    decode 0b11_010010_1000_0011_0110110111101100 = .hltT3 8 3 28140 ∧ encode (.hltT3 8 3 28140) = 0b11_010010_1000_0011_0110110111101100 := by
  decide

theorem test_decode_nop :
    decode 0b00_010011_0100_1001_1011_1000_10110011 = .nopT0 4 9 11 8 ∧ encode (.nopT0 4 9 11 8) = 0b00_010011_0100_1001_1011_1000_00000000 ∧
    decode 0b01_010011_0100_1001_1001001100010100 = .nopT1 4 9 37652 ∧ encode (.nopT1 4 9 37652) = 0b01_010011_0100_1001_1001001100010100 ∧
    decode 0b10_010011_100000010011000100110001 = .nopT2 8466737 ∧ encode (.nopT2 8466737) = 0b10_010011_100000010011000100110001 ∧
    decode 0b11_010011_1001_0100_0110110011101011 = .nopT3 9 4 27883 ∧ encode (.nopT3 9 4 27883) = 0b11_010011_1001_0100_0110110011101011 := by
  decide

theorem test_decode_jmp :
    decode 0b00_010100_0101_1010_1110_1101_10110100 = .jmpT0 5 10 14 13 ∧ encode (.jmpT0 5 10 14 13) = 0b00_010100_0101_1010_1110_1101_00000000 ∧
    decode 0b01_010100_0101_1010_1001010000010101 = .jmpT1 5 10 37909 ∧ encode (.jmpT1 5 10 37909) = 0b01_010100_0101_1010_1001010000010101 ∧
    decode 0b10_010100_100000010100000101000001 = .jmpT2 8470849 ∧ encode (.jmpT2 8470849) = 0b10_010100_100000010100000101000001 ∧
    decode 0b11_010100_1010_0101_0110101111101010 = .jmpT3 10 5 27626 ∧ encode (.jmpT3 10 5 27626) = 0b11_010100_1010_0101_0110101111101010 := by
  decide

theorem test_decode_beq :
    decode 0b00_010101_0110_1011_0001_0010_10110101 = .beqT0 6 11 1 2 ∧ encode (.beqT0 6 11 1 2) = 0b00_010101_0110_1011_0001_0010_00000000 ∧
    decode 0b01_010101_0110_1011_1001010100010110 = .beqT1 6 11 38166 ∧ encode (.beqT1 6 11 38166) = 0b01_010101_0110_1011_1001010100010110 ∧
    decode 0b10_010101_100000010101000101010001 = .beqT2 8474961 ∧ encode (.beqT2 8474961) = 0b10_010101_100000010101000101010001 ∧
    decode 0b11_010101_1011_0110_0110101011101001 = .beqT3 11 6 27369 ∧ encode (.beqT3 11 6 27369) = 0b11_010101_1011_0110_0110101011101001 := by
  decide

theorem test_decode_bne :
    decode 0b00_010110_0111_1100_0100_0111_10110110 = .bneT0 7 12 4 7 ∧ encode (.bneT0 7 12 4 7) = 0b00_010110_0111_1100_0100_0111_00000000 ∧
    decode 0b01_010110_0111_1100_1001011000010111 = .bneT1 7 12 38423 ∧ encode (.bneT1 7 12 38423) = 0b01_010110_0111_1100_1001011000010111 ∧
    decode 0b10_010110_100000010110000101100001 = .bneT2 8479073 ∧ encode (.bneT2 8479073) = 0b10_010110_100000010110000101100001 ∧
    decode 0b11_010110_1100_0111_0110100111101000 = .bneT3 12 7 27112 ∧ encode (.bneT3 12 7 27112) = 0b11_010110_1100_0111_0110100111101000 := by
  decide

theorem test_decode_bez :
    decode 0b00_010111_1000_1101_0111_1100_10110111 = .bezT0 8 13 7 12 ∧ encode (.bezT0 8 13 7 12) = 0b00_010111_1000_1101_0111_1100_00000000 ∧
    decode 0b01_010111_1000_1101_1001011100011000 = .bezT1 8 13 38680 ∧ encode (.bezT1 8 13 38680) = 0b01_010111_1000_1101_1001011100011000 ∧
    decode 0b10_010111_100000010111000101110001 = .bezT2 8483185 ∧ encode (.bezT2 8483185) = 0b10_010111_100000010111000101110001 ∧
    decode 0b11_010111_1101_1000_0110100011100111 = .bezT3 13 8 26855 ∧ encode (.bezT3 13 8 26855) = 0b11_010111_1101_1000_0110100011100111 := by
  decide

theorem test_decode_bnz :
    decode 0b00_011000_1001_1110_1010_0001_10111000 = .bnzT0 9 14 10 1 ∧ encode (.bnzT0 9 14 10 1) = 0b00_011000_1001_1110_1010_0001_00000000 ∧
    decode 0b01_011000_1001_1110_1001100000011001 = .bnzT1 9 14 38937 ∧ encode (.bnzT1 9 14 38937) = 0b01_011000_1001_1110_1001100000011001 ∧
    decode 0b10_011000_100000011000000110000001 = .bnzT2 8487297 ∧ encode (.bnzT2 8487297) = 0b10_011000_100000011000000110000001 ∧
    decode 0b11_011000_1110_1001_0110011111100110 = .bnzT3 14 9 26598 ∧ encode (.bnzT3 14 9 26598) = 0b11_011000_1110_1001_0110011111100110 := by
  decide

theorem test_decode_bgz :
    decode 0b00_011001_1010_1111_1101_0110_10111001 = .bgzT0 10 15 13 6 ∧ encode (.bgzT0 10 15 13 6) = 0b00_011001_1010_1111_1101_0110_00000000 ∧
    decode 0b01_011001_1010_1111_1001100100011010 = .bgzT1 10 15 39194 ∧ encode (.bgzT1 10 15 39194) = 0b01_011001_1010_1111_1001100100011010 ∧
    decode 0b10_011001_100000011001000110010001 = .bgzT2 8491409 ∧ encode (.bgzT2 8491409) = 0b10_011001_100000011001000110010001 ∧
    decode 0b11_011001_1111_1010_0110011011100101 = .bgzT3 15 10 26341 ∧ encode (.bgzT3 15 10 26341) = 0b11_011001_1111_1010_0110011011100101 := by
  decide

theorem test_decode_blz :
    decode 0b00_011010_1011_0000_0000_1011_10111010 = .blzT0 11 0 0 11 ∧ encode (.blzT0 11 0 0 11) = 0b00_011010_1011_0000_0000_1011_00000000 ∧
    decode 0b01_011010_1011_0000_1001101000011011 = .blzT1 11 0 39451 ∧ encode (.blzT1 11 0 39451) = 0b01_011010_1011_0000_1001101000011011 ∧
    decode 0b10_011010_100000011010000110100001 = .blzT2 8495521 ∧ encode (.blzT2 8495521) = 0b10_011010_100000011010000110100001 ∧
    decode 0b11_011010_0000_1011_0110010111100100 = .blzT3 0 11 26084 ∧ encode (.blzT3 0 11 26084) = 0b11_011010_0000_1011_0110010111100100 := by
  decide

theorem test_decode_undefined_opcodes :
    decode 0b00_011011_000100100011010000000000 = .undef27 0 0x123400 ∧
    decode 0b10_011100_101010111100110111101111 = .undef28to31 2 28 0xABCDEF ∧
    decode 0b01_011111_000000000000000000000001 = .undef28to31 1 31 1 ∧
    decode 0b10_100000_101010111100110111101111 = .undef32to63 2 32 0xABCDEF ∧
    decode 0b11_111111_000100100011010001010110 = .undef32to63 3 63 0x123456 := by
  decide

theorem test_encode_undefined_opcodes :
    encode (.undef27 0 0x123400) = 0x1B123400 ∧ encode (.undef32to63 3 63 0x123456) = 0xFF123456 ∧
    encode (.undef32to63 2 32 0xABCDEF) = 0xA0ABCDEF ∧ encode (.undef28to31 2 28 0) = 0x9C000000 := by
  decide

/-- X1 to X14: the Operand List of each word. -/
theorem test_operand_lists :
    operandListOf 0x05123000 = ⟨0, 5, .type0 1 2 3 0⟩ ∧ operandListOf 0x051230AB = ⟨0, 5, .type0 1 2 3 0⟩ ∧
    operandListOf 0x1A5A3C71 = ⟨0, 26, .type0 5 10 3 12⟩ ∧ operandListOf 0x4C010003 = ⟨1, 12, .type13 0 1 3⟩ ∧
    operandListOf 0x5AF0FFFF = ⟨1, 26, .type13 15 0 65535⟩ ∧ operandListOf 0x94000002 = ⟨2, 20, .type2 2⟩ ∧
    operandListOf 0x80FFFFFF = ⟨2, 0, .type2 16777215⟩ ∧ operandListOf 0xC1600003 = ⟨3, 1, .type13 6 0 3⟩ ∧
    operandListOf 0 = ⟨0, 0, .type0 0 0 0 0⟩ ∧ operandListOf 1 = ⟨0, 0, .type0 0 0 0 0⟩ := by
  decide

theorem test_operand_lists_of_undefined_opcodes :
    (decode 0x3FFFFFFF).operandList = ⟨0, 63, .type0 15 15 15 15⟩ ∧
    (decode 0x7FFFFFFF).operandList = ⟨1, 63, .type13 15 15 65535⟩ ∧
    (decode 0xBFFFFFFF).operandList = ⟨2, 63, .type2 16777215⟩ ∧
    (decode 0xFFFFFFFF).operandList = ⟨3, 63, .type13 15 15 65535⟩ := by
  decide

/-- X15 to X20. -/
theorem test_encode :
    encode (.addT0 1 2 3 0) = 0x05123000 ∧ encode (.rdT0 1 3 0 2) = 0x00130200 ∧
    encode (.beqT1 1 4 7) = 0x55140007 ∧ encode (.hltT2 0) = 0x92000000 ∧ encode (.rdT3 1 0 1) = 0xC0100001 ∧
    encode (.undef32to63 3 63 0xFFFFFF) = 0xFFFFFFFF := by
  decide

/-- Section 2.1: encoding the decoded list of X2, X3, X10 clears the spare bits. -/
theorem test_spare_bits_are_cleared :
    encode (decode 0x051230AB) = 0x05123000 ∧ encode (decode 0x1A5A3C71) = 0x1A5A3C00 ∧
    encode (decode 0x00000001) = 0 := by
  decide

theorem test_decode_table_word :
    decodeTableWord 32 0x92000000 = some (.hltT2 0) ∧ decodeTableWord 8 5 = some (.rdT0 0 0 0 0) ∧
    decodeTableWord 40 0 = none ∧ decodeTableWord 8 256 = none := by
  decide

/-! ## Start states and the comparison -/

/-- `s` with the registers listed set to the signed values listed. -/
def setRegs (s : State) (values : List (Nat × Int)) : State :=
  values.foldl (fun t p => t.writeReg (BitVec.ofNat 4 p.1) (BitVec.ofInt 32 p.2)) s

/-- The common start of 95 sections 2.2 and 2.3. -/
def startMove (w : Word) (values : List (Nat × Int)) : State :=
  setRegs { State.reset with ic := 1, dmo := 1, memSize := 6, mem := [(0, w), (2, 10), (3, -3), (4, 0)] } values

/-- The common start of 95 section 2.4. -/
def startControl (w : Word) (values : List (Nat × Int)) : State :=
  setRegs { State.reset with
    ic := 2, dmo := 2, memSize := 7, mem := [(0, w), (1, 0x13000000), (3, 3), (4, -1), (5, 0)] } values

/-- A step answers the start state with the registers listed and `pc` changed, and nothing else. -/
def stepSets (s : State) (values : List (Nat × Int)) (pc : Int) : Bool :=
  match step s with
  | .next t => decide (t = (setRegs s values).setPc (BitVec.ofInt 32 pc))
  | _ => false

/-- A step answers the start state with the cell at `n`, `x[2]` and `pc` changed, and nothing else. -/
def stepStores (s : State) (n : Nat) (v x2 pc : Int) : Bool :=
  match step s with
  | .next t => decide (t = ((setRegs s [(2, x2)]).putCell n (BitVec.ofInt 32 v)).setPc (BitVec.ofInt 32 pc))
  | _ => false

/-- A step answers the start state with `f` recorded and `x[2]` changed, and nothing else. -/
def stepRaises (s : State) (f : FatalCondition) (x2 : Int) : Bool :=
  match step s with
  | .next t => decide (t = (setRegs s [(2, x2)]).setFault f)
  | _ => false

/-! ## Move family: 95 section 2.2 -/

theorem test_rd_M1 : stepSets (startMove 0xC0130001 [(3, 77)]) [(1, 10), (2, -1072496639)] 1 = true := by decide
theorem test_rd_copy_M2 : stepSets (startMove 0xC0130000 [(3, 77)]) [(1, 77), (2, -1072496640)] 1 = true := by decide
theorem test_rd_M3_M4 :
    stepRaises (startMove 0xC0130004 [(1, 5), (3, 77)]) (.decodeError .dataNonInt 5) (-1072496636) = true ∧
    stepRaises (startMove 0xC0130005 [(1, 5), (3, 77)]) (.memoryFault 6) (-1072496635) = true := by
  decide
theorem test_rd_type0_M5 : stepSets (startMove 0x00130200 [(3, 77)]) [(1, -3), (2, 1245696)] 1 = true := by decide
theorem test_rd_type2_M6_F6 :
    stepRaises (startMove 0x80000001 [(3, 77)]) (.decodeError .arity 0) (-2147483647) = true ∧
    stepRaises (startMove 0x80000009 [(3, 77)]) (.decodeError .arity 0) (-2147483639) = true := by
  decide
theorem test_wr_M7_M9 :
    stepStores (startMove 0xC1560002 [(5, -9), (6, 4)]) 3 (-9) (-1051328510) 1 = true ∧
    stepStores (startMove 0xC1560004 [(5, -9), (6, 4)]) 5 (-9) (-1051328508) 1 = true := by
  decide
theorem test_wr_M8_M10 :
    stepSets (startMove 0xC1560000 [(5, -9), (6, 4)]) [(6, -9), (2, -1051328512)] 1 = true ∧
    stepRaises (startMove 0xC1560005 [(5, -9), (6, 4)]) (.memoryFault 6) (-1051328507) = true := by
  decide
theorem test_st_M11_M13 :
    stepStores (startMove 0x42560003 [(5, 123), (6, 4)]) 4 123 1112932355 1 = true ∧
    stepStores (startMove 0x42200001 []) 2 1109393409 1109393409 1 = true := by
  decide
theorem test_st_copy_M12 :
    stepSets (startMove 0x42560000 [(5, 123), (6, 4)]) [(6, 123), (2, 1112932352)] 1 = true := by decide
theorem test_lw_M14 :
    stepSets (startMove 0x43790002 [(7, 8), (9, 1)]) [(9, -3), (2, 1132003330)] 1 = true := by decide
theorem test_lw_copy_M15 :
    stepSets (startMove 0x43790000 [(7, 8), (9, 1)]) [(9, 8), (2, 1132003328)] 1 = true := by decide
theorem test_movi_M16_M17 :
    stepSets (startMove 0x4B040001 [(4, 55)]) [(4, 10), (2, 1258553345)] 1 = true ∧
    stepRaises (startMove 0x4B040000 [(4, 55)]) (.decodeError .dataNonInt 1) 1258553344 = true := by
  decide
theorem test_ldi_M18 : stepSets (startMove 0x4F040002 [(4, 55)]) [(4, -3), (2, 1325662210)] 1 = true := by decide
theorem test_addi_M19 : stepSets (startMove 0x4C040002 [(4, 55)]) [(4, 52), (2, 1275330562)] 1 = true := by decide
theorem test_addi_wraps_M20 :
    stepSets ((startMove 0x4C040001 [(4, 2147483647)]).putCell 2 1) [(4, -2147483648), (2, 0x4C040001)] 1 = true := by
  decide
theorem test_muli_M21 : stepSets (startMove 0x4D040002 [(4, -7)]) [(4, 21), (2, 1292107778)] 1 = true := by decide
theorem test_muli_wraps_M22 :
    stepSets ((startMove 0x4D040001 [(4, 65536)]).putCell 2 65536) [(4, 0), (2, 0x4D040001)] 1 = true := by
  decide
theorem test_divi_M23_M25 :
    stepSets (startMove 0x4E050002 [(5, -7)]) [(5, 2), (2, 1308950530)] 1 = true ∧
    stepSets ((startMove 0x4E050001 [(5, -2147483648)]).putCell 2 (-1)) [(2, 0x4E050001)] 1 = true := by
  decide
theorem test_divi_M24_M26_M27 :
    stepRaises (startMove 0x4E050003 [(5, -7)]) (.arithmeticFault 0) 1308950531 = true ∧
    stepRaises (startMove 0x4E050004 [(5, -7)]) (.decodeError .dataNonInt 5) 0x4E050004 = true ∧
    stepRaises (startMove 0x4E050009 [(5, -7)]) (.memoryFault 10) 0x4E050009 = true := by
  decide

/-! ## Register and comparison family: 95 section 2.3 -/

theorem test_mov_A1_A2 :
    stepSets (startMove 0x04560000 [(5, 1), (6, -8)]) [(5, -8), (2, 72744960)] 1 = true ∧
    stepSets (startMove 0x04520000 [(5, 1)]) [(5, 72482816), (2, 72482816)] 1 = true := by
  decide
theorem test_mov_types_A3_A4 :
    stepSets (startMove 0x44560009 [(5, 1), (6, -8)]) [(5, -8), (2, 1146486793)] 1 = true ∧
    stepRaises (startMove 0x84000000 []) (.decodeError .arity 0) (-2080374784) = true := by
  decide
theorem test_add_A5_A6 :
    stepSets (startMove 0x05134000 [(1, 7), (3, -10)]) [(4, -3), (2, 85147648)] 1 = true ∧
    stepSets (startMove 0x05134000 [(1, 2147483647), (3, 1)]) [(4, -2147483648), (2, 85147648)] 1 = true := by
  decide
theorem test_add_A7_A8_A9 :
    stepSets (startMove 0x05111000 [(1, 21)]) [(1, 42), (2, 85004288)] 1 = true ∧
    stepSets (startMove 0x05123000 [(1, 7)]) [(3, 85078023), (2, 85078016)] 1 = true ∧
    stepSets (startMove 0x051340FF [(1, 7), (3, -10)]) [(4, -3), (2, 85147903)] 1 = true := by
  decide
theorem test_add_type1_A10 :
    stepRaises (startMove 0x45130004 [(1, 7), (3, -10)]) (.decodeError .arity 0) 1158873092 = true := by decide
theorem test_sub_A11_A12 :
    stepSets (startMove 0x06456000 [(4, 3), (5, 10)]) [(6, -7), (2, 105209856)] 1 = true ∧
    stepSets (startMove 0x06456000 [(4, -2147483648), (5, 1)]) [(6, 2147483647), (2, 105209856)] 1 = true := by
  decide
theorem test_mul_A13_A14_A15 :
    stepSets (startMove 0x07137000 [(1, -6), (3, 7)]) [(7, -42), (2, 118714368)] 1 = true ∧
    stepSets (startMove 0x07117000 [(1, 46341)]) [(7, -2147479015), (2, 118583296)] 1 = true ∧
    stepSets (startMove 0x07117000 [(1, 65536), (7, 9)]) [(7, 0), (2, 118583296)] 1 = true := by
  decide
theorem test_div_A16_to_A20 :
    stepSets (startMove 0x08134000 [(1, 7), (3, 2)]) [(4, 3), (2, 135479296)] 1 = true ∧
    stepSets (startMove 0x08134000 [(1, -7), (3, 2)]) [(4, -3), (2, 135479296)] 1 = true ∧
    stepSets (startMove 0x08134000 [(1, 7), (3, -2)]) [(4, -3), (2, 135479296)] 1 = true ∧
    stepSets (startMove 0x08134000 [(1, -7), (3, -2)]) [(4, 3), (2, 135479296)] 1 = true ∧
    stepSets (startMove 0x08134000 [(1, -2147483648), (3, -1)]) [(4, -2147483648), (2, 135479296)] 1 = true := by
  decide
theorem test_div_A21_A22_F5 :
    stepRaises (startMove 0x08134000 [(1, 7), (4, 99)]) (.arithmeticFault 0) 135479296 = true ∧
    stepSets (startMove 0x08134000 [(3, 5), (4, 99)]) [(4, 0), (2, 135479296)] 1 = true ∧
    stepRaises (startMove 0x48130004 [(1, 7)]) (.decodeError .arity 0) 0x48130004 = true := by
  decide
theorem test_and_A23_A24_A25 :
    stepSets (startMove 0x09145000 [(1, 6), (4, 6)]) [(5, 1), (2, 152326144)] 1 = true ∧
    stepSets (startMove 0x09145000 [(1, 6), (4, 3), (5, 9)]) [(5, 0), (2, 152326144)] 1 = true ∧
    stepSets (startMove 0x09145000 []) [(5, 1), (2, 152326144)] 1 = true := by
  decide
theorem test_or_A26_A27 :
    stepSets (startMove 0x0A156000 [(1, 6), (5, 1)]) [(6, 1), (2, 169172992)] 1 = true ∧
    stepSets (startMove 0x0A156000 [(1, 2), (5, 4), (6, 9)]) [(6, 0), (2, 169172992)] 1 = true := by
  decide
theorem test_or_A28_A29 :
    stepSets (startMove 0x0A156000 [(1, 1)]) [(6, 1), (2, 169172992)] 1 = true ∧
    stepSets (startMove 0x0A156000 [(1, -1), (6, 9)]) [(6, 0), (2, 169172992)] 1 = true := by
  decide
theorem test_slt_A30_to_A33 :
    stepSets (startMove 0x10658000 [(6, 3), (5, 10)]) [(8, 1), (2, 275087360)] 1 = true ∧
    stepSets (startMove 0x10658000 [(6, -1)]) [(8, 1), (2, 275087360)] 1 = true ∧
    stepSets (startMove 0x10658000 [(6, 5), (5, 5), (8, 9)]) [(8, 0), (2, 275087360)] 1 = true ∧
    stepSets (startMove 0x10658000 [(6, -2147483648), (5, 2147483647)]) [(8, 1), (2, 275087360)] 1 = true := by
  decide
theorem test_slti_A34_A35_A36 :
    stepSets (startMove 0x51190001 [(1, 5)]) [(9, 1), (2, 1360592897)] 1 = true ∧
    stepSets (startMove 0x51190002 [(1, 5), (9, 7)]) [(9, 0), (2, 1360592898)] 1 = true ∧
    stepRaises (startMove 0x51190000 [(1, 5), (9, 7)]) (.decodeError .dataNonInt 1) 0x51190000 = true := by
  decide

/-! ## Control family and undefined opcodes: 95 section 2.4 -/

theorem test_hlt_K1_K2 :
    stepSets (startControl 0x92000000 []) [(2, -1845493760)] 2 = true ∧
    stepSets (startControl 0x12FFFFAB []) [(2, 318767019)] 2 = true := by
  decide
theorem test_nop_K3 : stepSets (startControl 0x13000000 []) [(2, 318767104)] 1 = true := by decide
theorem test_jmp_K4_K5_K6_K10 :
    stepSets (startControl 0x94000001 []) [(2, -1811939327)] 3 = true ∧
    stepSets (startControl 0x94000002 []) [(2, -1811939326)] (-1) = true ∧
    stepSets (startControl 0x94000003 []) [(2, -1811939325)] 0 = true ∧
    stepSets (startControl 0x14000300 []) [(2, 335545088)] 0 = true := by
  decide
theorem test_jmp_K7_K8_K9 :
    stepRaises (startControl 0x94000000 []) (.decodeError .dataNonInt 2) (-1811939328) = true ∧
    stepRaises (startControl 0x94000004 []) (.decodeError .dataNonInt 6) (-1811939324) = true ∧
    stepRaises (startControl 0x94000005 []) (.memoryFault 7) (-1811939323) = true := by
  decide
theorem test_beq_K11_K12 :
    stepSets (startControl 0x55140003 [(1, 6), (4, 6)]) [(2, 1427374083)] 0 = true ∧
    stepSets (startControl 0x55140003 [(1, 6), (4, 5)]) [(2, 1427374083)] 1 = true := by
  decide
theorem test_beq_K13_K14 :
    stepSets (startControl 0x55140009 [(1, 6), (4, 5)]) [(2, 0x55140009)] 1 = true ∧
    stepRaises (startControl 0x55140009 [(1, 6), (4, 6)]) (.memoryFault 11) 0x55140009 = true := by
  decide
theorem test_bne_K15_K16 :
    stepSets (startControl 0x56810001 [(8, 1)]) [(2, 1451294721)] 3 = true ∧
    stepSets (startControl 0x56880001 [(8, 1)]) [(2, 0x56880001)] 1 = true := by
  decide
theorem test_bez_K17_K18_K19_K29 :
    stepSets (startControl 0x57300001 []) [(2, 1462763521)] 3 = true ∧
    stepSets (startControl 0x57300001 [(3, 4)]) [(2, 1462763521)] 1 = true ∧
    stepSets (startControl 0x57200001 []) [(2, 1461714945)] 1 = true ∧
    stepSets (startControl 0x573F0001 [(15, 9)]) [(2, 0x573F0001)] 3 = true := by
  decide
theorem test_bez_type2_K28 :
    stepRaises (startControl 0x97000001 []) (.decodeError .arity 0) (-1761607679) = true := by decide
theorem test_bnz_K20_K21 :
    stepSets (startControl 0x58300001 [(3, -5)]) [(2, 1479540737)] 3 = true ∧
    stepSets (startControl 0x58300001 []) [(2, 1479540737)] 1 = true := by
  decide
theorem test_bgz_K22_K23_K24 :
    stepSets (startControl 0x59100003 [(1, 4)]) [(2, 1494220803)] 0 = true ∧
    stepSets (startControl 0x59100003 []) [(2, 1494220803)] 1 = true ∧
    stepSets (startControl 0x59100003 [(1, -1)]) [(2, 1494220803)] 1 = true := by
  decide
theorem test_blz_K25_K26_K27 :
    stepSets (startControl 0x5A700001 [(7, -1)]) [(2, 1517289473)] 3 = true ∧
    stepSets (startControl 0x5A700001 []) [(2, 1517289473)] 1 = true ∧
    stepSets (startControl 0x5A700001 [(7, -2147483648)]) [(2, 1517289473)] 3 = true := by
  decide
theorem test_undefined_opcodes_K30_K31_K32 :
    stepSets (startControl 0x1B123400 []) [(2, 454177792)] 1 = true ∧
    stepSets (startControl 0xFF123456 []) [(2, -15584170)] 1 = true ∧
    stepSets (startControl 0xA0ABCDEF []) [(2, -1599353361)] 1 = true := by
  decide

/-! ## Faults, the halt gate and the host: 95 sections 2.5 and 2.6 -/

/-- F1's start. -/
def startMarker : State := { State.reset with ic := 1, dmo := 0, memSize := 3, mem := [(1, 5)] }

/-- K5 after its first step: `pc` is -1. -/
def startNegativePc : State := (startControl 0x94000002 [(2, -1811939326)]).setPc (-1)

/-- K1 after its step: halted at `pc = IC`. -/
def startHalted : State := (startControl 0x92000000 [(2, -1845493760)]).setPc 2

/-- A21 after its step. -/
def startFaulted : State := (startMove 0x08134000 [(1, 7), (4, 99), (2, 135479296)]).setFault (.arithmeticFault 0)

theorem test_fetch_of_a_marker_F1 : stepRaises startMarker (.decodeError .fetchNonInt 0) 0 = true := by decide
theorem test_fetch_at_a_negative_pc_F2_K5 :
    stepRaises startNegativePc (.memoryFault (-1)) (-1811939326) = true := by decide
theorem test_no_step_past_the_end_F3_F9 :
    stepSets startHalted [] 2 = true ∧ stepSets (startHalted.setPc 2147483647) [] 2147483647 = true := by decide
theorem test_no_step_after_a_fault_F7_F8 :
    stepSets startFaulted [] 0 = true ∧ stepSets (startFaulted.setProgramCounter 1) [] 1 = true := by decide
theorem test_no_step_from_reset_F10 : stepSets State.reset [] 0 = true := by decide
theorem test_the_host_restarts_a_halted_machine_F11 :
    stepSets (startHalted.setProgramCounter 1) [(2, 318767104)] 2 = true := by decide
theorem test_a_zero_cell_runs_as_a_copy : stepSets (startControl 0 []) [(2, 0)] 1 = true := by decide
theorem test_is_halted : startHalted.isHalted = true ∧ startFaulted.isHalted = false := by decide
theorem test_cause_codes :
    causeCode none = 0 ∧ causeCode (some (.decodeError .fetchNonInt 0)) = 1 ∧
    causeCode (some (.decodeError .arity 0)) = 2 ∧ causeCode (some (.decodeError .dataNonInt 5)) = 3 ∧
    causeCode (some (.memoryFault (-1))) = 4 ∧ causeCode startFaulted.fault = 5 := by decide

/-- 70_reset R175: the integer part of a line's conversion. -/
theorem test_cell_of_integer :
    cellOfInteger 3222274049 = .int 0xC0100001 ∧ cellOfInteger (-1) = .int 0xFFFFFFFF ∧
    cellOfInteger 4294967295 = .int 0xFFFFFFFF ∧ cellOfInteger (-2147483648) = .int 0x80000000 ∧
    cellOfInteger 4294967296 = .nonInt ∧ cellOfInteger (-2147483649) = .nonInt := by decide

/-- The launch of program P2. -/
def launchP2 : Launch := documentedLaunch [.int 0x43010001, .int 0x05113000, .int 0x42300001] [.int 21]

theorem test_launch_of_P2 : launchP2.ic = 3 ∧ launchP2.dmo = 3 ∧ launchP2.memSize = 6 ∧
    launchP2.image = [.int 0x43010001, .int 0x05113000, .int 0x42300001, .nonInt, .int 21, .nonInt] := by decide

/-- A word placed with `withFetchWord` is the one the very next step runs, from reset and from any of the stops. -/
theorem test_with_fetch_word :
    stepSets (State.reset.withFetchWord 32 0x13000000) [(2, 318767104)] 1 = true ∧
    stepRaises (State.reset.withFetchWord 32 0x80000001) (.decodeError .arity 0) (-2147483647) = true ∧
    stepSets (startHalted.withFetchWord 32 0xFF123456) [(2, -15584170)] 3 = true ∧
    stepSets (startNegativePc.withFetchWord 32 0xFF123456) [(2, -15584170)] 1 = true ∧
    stepSets (startFaulted.withFetchWord 32 0xFF123456) [(2, -15584170)] 1 = true := by decide

/-! ## Witnesses: for each obligation with hypotheses, a state and operands that meet them, clause by clause -/

/-- A running machine at the greatest `pc` a launch admits. -/
def startTop : State :=
  { State.reset with pc := 2147483645, ic := 2147483646, memSize := 2147483647, mem := [(2147483645, 0x13000000)] }

theorem witness_decode_of_encode : Instr.WellFormed (.rdT0 15 15 15 15) ∧ Instr.WellFormed (.jmpT2 16777215) ∧
    Instr.WellFormed (.undef28to31 0 28 0) ∧ Instr.WellFormed (.undef32to63 3 63 16777215) := by decide

theorem witness_decode_cuts_the_fields : (decode 0x05123000).operandList.type = 0 ∧
    (decode 0x5AF0FFFF).operandList.type = 1 ∧ (decode 0x80FFFFFF).operandList.type = 2 ∧
    (decode 0xFFFFFFFF).operandList.type = 3 := by decide

theorem witness_encode_of_decode : typeOf 0xFFFFFFFF ≠ 0 ∧ (0x05123000 : Word).extractLsb' 0 8 = 0 ∧
    typeOf 0x1A5A3C71 = 0 ∧ (opcodeOf 0x1A5A3C71).toNat = 26 := by decide

theorem witness_spare_bits : typeOf 0x05123000 = 0 ∧
    (0x05123000 : Word).extractLsb' 8 24 = (0x051230AB : Word).extractLsb' 8 24 := by decide

theorem witness_arity_missing : lacksOperand (opcodeOf 0x45130004).toNat (typeOf 0x45130004).toNat = true := by decide
theorem witness_arity_supplied : lacksOperand (opcodeOf 0xC0130001).toNat (typeOf 0xC0130001).toNat = false ∧
    (startMove 0xC0130001 []).fault = none := by decide

theorem witness_launch_answers : ∃ t, State.launch launchP2 = .next t ∧ t.ic = 3 ∧ t.cellAt 4 = .int 21 ∧
    t.cellAt 3 = .nonInt := ⟨_, rfl, by decide, by decide, by decide⟩

/-- The least launch: two cells, IC and DMO at most 1. -/
def launchLeast : Launch := ⟨2, 1, 1, [.int 0, .nonInt], true, true⟩

theorem witness_launch_accepted :
    launchLeast.hltActive = true ∧ launchLeast.jumpIndirect = true ∧ launchLeast.premises := by decide
theorem witness_launch_violated :
    ¬ Launch.premises { launchLeast with ic := 2 } ∧ ¬ Launch.premises { launchLeast with dmo := 2 } ∧
    ¬ Launch.premises { launchLeast with image := [.nonInt] } ∧
    ¬ Launch.premises ⟨1, 0, 0, [.nonInt], true, true⟩ ∧
    ¬ Launch.premises ⟨2147483648, 0, 0, [.nonInt], true, true⟩ := by decide
theorem witness_launch_legacy :
    ¬ (({ launchLeast with hltActive := false } : Launch).hltActive = true ∧ launchLeast.jumpIndirect = true) ∧
    ¬ (launchLeast.hltActive = true ∧ ({ launchLeast with jumpIndirect := false } : Launch).jumpIndirect = true) := by
  decide

theorem witness_documented_loader :
    ([.int 1, .nonInt] : List Cell).length + ([.int 21] : List Cell).length + 2 ≤ 2147483647 ∧
    ([.int 1, .nonInt] : List Cell)[1]? = some .nonInt ∧ ([.int 21] : List Cell)[0]? = some (.int 21) := by decide

theorem witness_about_to_run : AboutToRun (startMove 0xC0130001 []) 0xC0130001 ∧
    AboutToRun startTop 0x13000000 := by
  unfold AboutToRun; decide
theorem witness_about_to_run_encoded : Instr.WellFormed (.rdT3 1 3 1) ∧
    AboutToRun (startMove (encode (.rdT3 1 3 1)) []) (encode (.rdT3 1 3 1)) := by
  unfold AboutToRun; decide

theorem witness_fetch_out_of_bounds : startNegativePc.pc.toInt < 0 ∧
    (startNegativePc.memSize : Int) ≤ (startNegativePc.setPc 7).pc.toInt := by decide
theorem witness_fetch_marker : 0 ≤ startMarker.pc.toInt ∧ startMarker.pc.toInt < startMarker.memSize ∧
    startMarker.cellAt startMarker.pc.toNat = .nonInt := by decide
theorem witness_running : startTop.launchPremises ∧ startTop.running ∧ startMarker.launchPremises ∧
    startMarker.running ∧ startNegativePc.launchPremises ∧ startNegativePc.running := by decide

theorem witness_not_running : startHalted.launchPremises ∧ ¬ startHalted.running ∧ startFaulted.launchPremises ∧
    ¬ startFaulted.running := by decide
theorem witness_premises_violated : ¬ ({ State.reset with ic := 2 } : State).launchPremises ∧
    ¬ ({ State.reset with memSize := 1 } : State).launchPremises := by decide

theorem witness_invariant_and_step : ∃ t, MachineInv (startMove 0xC1560004 []) ∧
    step (startMove 0xC1560004 []) = .next t ∧ MachineInv t :=
  ⟨_, by unfold MachineInv; decide, rfl, by unfold MachineInv; decide⟩

theorem witness_launch_parameters : (∃ t, exec (.wrT3 5 6 4) (startMove 0 []) = .next t) ∧
    (∃ t, hostMove .runCycle (startMove 0xC1560004 []) = .next t) ∧
    (∃ t, hostMove (.setProgramCounter 1) startHalted = .next t) := ⟨⟨_, rfl⟩, ⟨_, rfl⟩, ⟨_, rfl⟩⟩

theorem witness_one_write : (∃ t, exec (.rdT3 1 3 1) (startMove 0 []) = .next t ∧ t.readReg 1 = 10) ∧
    (∃ t, exec (.wrT3 5 6 2) (startMove 0 [(5, -9)]) = .next t ∧ t.cellAt 3 = .int (-9)) ∧
    (∃ t, exec (.jmpT2 2) (startMove 0 []) = .next t ∧ t.pc = -3) ∧
    (∃ t, (startMove 0 []).fault = none ∧ exec (.rdT2 1) (startMove 0 []) = .next t ∧ t.faulted) :=
  ⟨⟨_, rfl, by decide⟩, ⟨_, rfl, by decide⟩, ⟨_, rfl, by decide⟩, ⟨_, by decide, rfl, by decide⟩⟩

/-- The clauses of `StoresOnlyAtItsAddress`: a store, the sentinel, Type 2, and another opcode. -/
theorem witness_store_forms :
    (Instr.wrT3 5 6 1).operandList.opcode = 1 ∧ (Instr.wrT3 5 6 1).operandList.operands.address = some 1 ∧
    (Instr.stT0 5 6 0 15).operandList.opcode = 2 ∧ (Instr.stT0 5 6 0 15).operandList.operands.address = some 15 ∧
    (Instr.wrT3 5 6 0).operandList.operands.address = some 0 ∧ (Instr.stT2 7).operandList.type = 2 ∧
    (Instr.lwT1 7 9 2).operandList.opcode = 3 := by decide

/-- The destination column of 41_move and 42_alu, one row of each kind. -/
theorem test_destinations :
    destinationOf (.rdT3 1 3 1) = some 1 ∧ destinationOf (.wrT3 5 6 0) = some 6 ∧ destinationOf (.wrT3 5 6 2) = none ∧
    destinationOf (.lwT1 7 9 2) = some 9 ∧ destinationOf (.movT0 5 6 0 0) = some 5 ∧
    destinationOf (.addT0 1 3 4 0) = some 4 ∧ destinationOf (.moviT1 0 4 1) = some 4 ∧
    destinationOf (.sltT0 6 5 8 0) = some 8 ∧ destinationOf (.sltiT1 1 9 1) = some 9 ∧
    destinationOf (.hltT0 1 2 3 4) = none ∧ destinationOf (.beqT1 1 4 3) = none ∧ destinationOf (.rdT2 1) = none ∧
    destinationOf (.undef27 0 0) = none := by decide

theorem witness_step_that_loads : ∃ t, step (startMove 0xC0130001 []) = .next t ∧ t.readReg 1 = 10 ∧
    AboutToRun (startMove 0xC0130001 []) 0xC0130001 ∧ destinationOf (decode 0xC0130001) ≠ some 3 :=
  ⟨_, rfl, by decide, by unfold AboutToRun; decide, by decide⟩
theorem witness_step_that_stores : ∃ t, step (startMove 0xC1560001 [(5, -9)]) = .next t ∧ t.cellAt 2 = .int (-9) ∧
    AboutToRun (startMove 0xC1560001 [(5, -9)]) 0xC1560001 :=
  ⟨_, rfl, by decide, by unfold AboutToRun; decide⟩
theorem witness_step_that_fetches_nothing : (∀ w, ¬ AboutToRun startNegativePc w) ∧
    ∃ t, step startNegativePc = .next t :=
  ⟨fun _ h => absurd h.2.2.1 (by decide), _, rfl⟩

/-- A store to the lowest cell a store can reach, one above the data base. -/
theorem witness_store_above_the_data_base : (startMove 0xC1560001 []).dmo = 1 ∧
    ∃ t, exec (.wrT3 5 6 1) (startMove 0xC1560001 [(5, -9)]) = .next t ∧ t.cellAt 2 = .int (-9) ∧
      t.cellAt 1 = .nonInt := ⟨by decide, _, rfl, by decide, by decide⟩

theorem witness_fatal_in_execute : (startMove 0x08134000 []).launchPremises ∧ (startMove 0x08134000 []).running ∧
    AboutToRun (startMove 0x08134000 []) 0x08134000 ∧
    ∃ t, step (startMove 0x08134000 []) = .next t ∧ t.faulted :=
  ⟨by decide, by decide, by unfold AboutToRun; decide, _, rfl, by decide⟩
theorem witness_fatal_in_fetch : startNegativePc.launchPremises ∧ startNegativePc.running ∧
    (∀ w, ¬ AboutToRun startNegativePc w) ∧ ∃ t, step startNegativePc = .next t ∧ t.faulted :=
  ⟨by decide, by decide, fun _ h => absurd h.2.2.1 (by decide), _, rfl, by decide⟩
theorem witness_after_a_fault : hostMove (.setProgramCounter 1) startFaulted = .next (startFaulted.setPc 1) := rfl

theorem witness_priority_fetch : startNegativePc.pc.toInt < 0 ∧ 0 ≤ startMarker.pc.toInt ∧
    startMarker.cellAt startMarker.pc.toNat = .nonInt := by decide
theorem witness_priority_arity : AboutToRun (startMove 0x48130004 []) 0x48130004 ∧
    lacksOperand (opcodeOf 0x48130004).toNat (typeOf 0x48130004).toNat = true := by
  unfold AboutToRun; decide
theorem witness_priority_divi :
    AboutToRun (startMove 0x4E050009 []) 0x4E050009 ∧ decode 0x4E050009 = .diviT1 0 5 9 ∧
    OutOfBounds (startMove 0x4E050009 []) 9 ∧
    AboutToRun (startMove 0x4E050004 []) 0x4E050004 ∧ decode 0x4E050004 = .diviT1 0 5 4 ∧
    HoldsMarker (startMove 0x4E050004 []) 4 ∧
    AboutToRun (startMove 0x4E050003 []) 0x4E050003 ∧ decode 0x4E050003 = .diviT1 0 5 3 ∧
    HoldsData (startMove 0x4E050003 []) 3 0 := by
  unfold AboutToRun OutOfBounds HoldsMarker HoldsData; decide

/-- The indices -1, 0, MEM_SIZE - 1 and MEM_SIZE. -/
theorem witness_cell_reads_and_writes : (startMove 7 []).cellAt 0 = .int 7 ∧ (0 : Int) < (startMove 7 []).memSize ∧
    (startMove 7 []).cellAt 5 = .nonInt ∧ (5 : Int) < (startMove 7 []).memSize ∧
    ((startMove 7 []).memSize : Int) ≤ 6 ∧
    (startMove 7 []).memRead 0 = .ok 7 ∧ (startMove 7 []).memRead 5 = .error (.decodeError .dataNonInt 5) ∧
    (startMove 7 []).memRead 6 = .error (.memoryFault 6) ∧
    (startMove 7 []).fetchCell (-1) = .error (.memoryFault (-1)) := ⟨by decide, by decide, by decide, by decide,
      by decide, rfl, rfl, rfl, rfl⟩

theorem witness_wrap_in_range : IsWrap32 2147483647 2147483647 ∧ IsWrap32 (-2147483648) (-2147483648) ∧
    IsWrap32 2147483648 (-2147483648) := by
  unfold IsWrap32; decide
theorem witness_division : (3 : Word) ≠ 0 ∧ ¬ ((0x80000000 : Word) = 0x80000000 ∧ (3 : Word) = 0xFFFFFFFF) ∧
    (tdiv 0x80000000 3).toInt = -715827882 := by decide

theorem witness_comparisons : ∃ t, (startMove 0 [(1, 6), (4, 6)]).fault = none ∧
    exec (.andT0 1 4 5 0) (startMove 0 [(1, 6), (4, 6)]) = .next t ∧ t.fault = none ∧ t.readReg 5 = 1 :=
  ⟨_, by decide, rfl, by decide, by decide⟩
theorem witness_comparison_with_data : ∃ t, (startMove 0 [(1, 5)]).fault = none ∧
    exec (.sltiT1 1 9 2) (startMove 0 [(1, 5)]) = .next t ∧ t.fault = none ∧ t.readReg 9 = 0 :=
  ⟨_, by decide, rfl, by decide, by decide⟩

/-- P3 at launch, with its first instruction writing register 2 and its second reading it. -/
def startP3 : State :=
  { State.reset with ic := 3, dmo := 3, memSize := 6, mem := [(0, 0x4B020001), (1, 0x04520000), (2, 0x92000000), (4, 99)] }

theorem witness_register_two_is_read : AboutToRun (startMove 0x04520000 []) 0x04520000 ∧
    (opcodeOf 0x04520000).toNat = 4 ∧ typeOf 0x04520000 ≠ 2 ∧ reg2Of 0x04520000 = 2 ∧
    AboutToRun (startMove 0xC4120000 []) 0xC4120000 ∧ (opcodeOf 0xC4120000).toNat = 4 ∧ typeOf 0xC4120000 ≠ 2 ∧
    reg2Of 0xC4120000 = 2 := by
  unfold AboutToRun; decide
theorem witness_register_two_is_written : AboutToRun startP3 0x4B020001 ∧ (opcodeOf 0x4B020001).toNat = 11 ∧
    typeOf 0x4B020001 ≠ 2 ∧ reg2Of 0x4B020001 = 2 ∧ (decode 0x4B020001).operandList.operands.address = some 1 ∧
    HoldsData startP3 1 99 := by
  unfold AboutToRun HoldsData; decide
theorem witness_register_two_is_kept : AboutToRun (startControl 0x13000000 []) 0x13000000 ∧
    (opcodeOf 0x13000000).toNat = 19 ∧ destinationOf (decode 0x13000000) ≠ some 2 ∧
    AboutToRun (startControl 0x1B123400 []) 0x1B123400 ∧ (opcodeOf 0x1B123400).toNat = 27 := by
  unfold AboutToRun; decide
theorem witness_register_two_is_kept_by_a_fault : ∃ t, AboutToRun (startMove 0x4E020003 []) 0x4E020003 ∧
    destinationOf (decode 0x4E020003) = some 2 ∧ step (startMove 0x4E020003 []) = .next t ∧ t.faulted :=
  ⟨_, by unfold AboutToRun; decide, by decide, rfl, by decide⟩
theorem witness_register_two_is_overwritten : ∃ t, step startP3 = .next t ∧ t.readReg 2 = 99 ∧
    AboutToRun t 0x04520000 := ⟨_, rfl, by decide, by unfold AboutToRun; decide⟩

theorem witness_own_word_not_reading :
    AboutToRun (startMove (encode (.divT0 1 2 4 0)) []) (encode (.divT0 1 2 4 0)) ∧
    AboutToRun (startMove (encode (.bezT0 2 0 0 1)) []) (encode (.bezT0 2 0 0 1)) ∧
    AboutToRun (startMove (encode (.bezT1 2 0 1)) []) (encode (.bezT1 2 0 1)) ∧
    AboutToRun (startMove (encode (.bezT3 2 0 1)) []) (encode (.bezT3 2 0 1)) ∧
    AboutToRun (startMove (encode (.bgzT3 2 0 1)) []) (encode (.bgzT3 2 0 1)) := by
  unfold AboutToRun; decide
theorem witness_own_word_reading :
    AboutToRun (startMove (encode (.bnzT0 2 0 0 1)) []) (encode (.bnzT0 2 0 0 1)) ∧
    AboutToRun (startMove (encode (.bgzT0 2 0 0 1)) []) (encode (.bgzT0 2 0 0 1)) ∧
    AboutToRun (startMove (encode (.bnzT1 2 0 1)) []) (encode (.bnzT1 2 0 1)) ∧
    AboutToRun (startMove (encode (.bnzT3 2 0 1)) []) (encode (.bnzT3 2 0 1)) ∧
    AboutToRun (startMove (encode (.bgzT1 2 0 1)) []) (encode (.bgzT1 2 0 1)) ∧
    HoldsData (startMove (encode (.bgzT1 2 0 1)) []) 1 10 ∧
    HoldsData (startMove (encode (.bnzT0 2 0 0 1)) []) 1 10 := by
  unfold AboutToRun HoldsData; decide

/-- K6 and K10: the cell that address operand 3 reaches holds the jump's own index, 0. -/
theorem witness_jump_to_itself : AboutToRun (startControl 0x94000003 []) 0x94000003 ∧
    (opcodeOf 0x94000003).toNat = 20 ∧ (decode 0x94000003).operandList.operands.address = some 3 ∧
    HoldsData (startControl 0x94000003 []) 3 (startControl 0x94000003 []).pc ∧
    AboutToRun (startControl 0x14000300 []) 0x14000300 ∧ (opcodeOf 0x14000300).toNat = 20 ∧
    (decode 0x14000300).operandList.operands.address = some 3 ∧
    HoldsData (startControl 0x14000300 []) 3 (startControl 0x14000300 []).pc := by
  unfold AboutToRun HoldsData; decide

theorem witness_set_program_counter : MachineInv startHalted ∧ startHalted.fault = none ∧
    (1 : Word).toInt < startHalted.ic ∧ (startHalted.ic : Int) ≤ (2 : Word).toInt ∧ startFaulted.faulted := by
  unfold MachineInv; decide

/-- The conditions of `ReadsData` at the lowest and the highest cell of each kind: the data cells of section 2.2 are
at address operands 1 to 3, the markers at 0 and 4, and 5 is the first operand out of bounds. -/
theorem witness_reads_data : HoldsData (startMove 0 []) 1 10 ∧ HoldsData (startMove 0 []) 3 0 ∧
    HoldsMarker (startMove 0 []) 0 ∧ HoldsMarker (startMove 0 []) 4 ∧ OutOfBounds (startMove 0 []) 5 ∧
    OutOfBounds (startMove 0 []) 16777215 := by
  unfold HoldsData HoldsMarker OutOfBounds; decide

/-- `RD`, `WR`, `ST`, `LW`: both values of the sentinel test and both sides of the bound. -/
theorem witness_sentinel_and_bounds : (0 : BitVec 16).toNat = 0 ∧ (4 : BitVec 16).toNat ≠ 0 ∧
    InBounds (startMove 0 []) (4 : BitVec 16).toNat ∧ (5 : BitVec 16).toNat ≠ 0 ∧
    OutOfBounds (startMove 0 []) (5 : BitVec 16).toNat := by
  unfold InBounds OutOfBounds; decide

/-- `DIV`, `DIVI`: a zero divisor and another, in a register and in a cell. -/
theorem witness_divisors : (startMove 0 [(3, -2)]).readReg 1 = 0 ∧ (startMove 0 [(3, -2)]).readReg 3 ≠ 0 ∧
    HoldsData (startMove 0 []) 3 0 ∧ HoldsData (startMove 0 []) 2 (-3) ∧ (-3 : Word) ≠ 0 := by
  unfold HoldsData; decide

/-- `HLT`, `NOP`: a launched machine with no fault, and one about to run the instruction. -/
theorem witness_hlt_nop : (startControl 0 []).launchPremises ∧ (startControl 0 []).fault = none ∧
    AboutToRun (startControl 0x12FFFFAB []) 0x12FFFFAB ∧ (opcodeOf 0x12FFFFAB).toNat = 18 ∧
    AboutToRun (startControl 0x13000000 []) 0x13000000 ∧ (opcodeOf 0x13000000).toNat = 19 := by
  unfold AboutToRun; decide

/-- The branches: registers equal and different, zero and not, positive, zero and negative. -/
theorem witness_branch_conditions :
    (startControl 0 [(1, 6), (4, 6)]).readReg 1 = (startControl 0 [(1, 6), (4, 6)]).readReg 4 ∧
    (startControl 0 [(1, 6), (4, 5)]).readReg 1 ≠ (startControl 0 [(1, 6), (4, 5)]).readReg 4 ∧
    ((startControl 0 [(1, 1), (4, -1)]).readReg 0).toInt = 0 ∧
    ((startControl 0 [(1, 1), (4, -1)]).readReg 1).toInt = 1 ∧
    ((startControl 0 [(1, 1), (4, -1)]).readReg 4).toInt = -1 ∧
    HoldsData (startControl 0 [(1, 1), (4, -1)]) 2 (-1) ∧ HoldsMarker (startControl 0 [(1, 1), (4, -1)]) 0 ∧
    OutOfBounds (startControl 0 [(1, 1), (4, -1)]) 5 := by
  unfold HoldsData HoldsMarker OutOfBounds; decide

theorem witness_undefined_opcodes : AboutToRun (startControl 0x1B123400 []) 0x1B123400 ∧
    27 ≤ (opcodeOf 0x1B123400).toNat ∧ AboutToRun (startControl 0xFF123456 []) 0xFF123456 ∧
    (opcodeOf 0xFF123456).toNat = 63 := by
  unfold AboutToRun; decide

end Sys2Proof.Tests
end

section
/-! Proofs about reset, launch and the three statuses of the machine (10_state R21, R27, R34; 70_reset R170, R173). -/

namespace Sys2Proof

open Machine

/-- The machine that an accepted launch answers: the reset values with the four things the loader supplies
(70_reset R173). `launch_eq_next_iff` ties it to `State.launch`. -/
def launchedMachine (l : Launch) : State :=
  { State.reset with ic := l.ic, dmo := l.dmo, memSize := l.memSize, mem := Memory.ofCells 0 l.image }

/-- All that a launch can answer: the launched machine, exactly where both legacy parameters are at their defaults
and R176 (a) to (d) hold. -/
theorem launch_eq_next_iff (l : Launch) (t : State) :
    State.launch l = .next t ↔
      (l.hltActive = true ∧ l.jumpIndirect = true) ∧ l.premises ∧ t = launchedMachine l := by
  by_cases hmode : l.hltActive = true ∧ l.jumpIndirect = true
  · by_cases hprem : l.premises
    · have hlaunch : State.launch l = .next (launchedMachine l) := (if_pos hmode).trans (if_pos hprem)
      rw [hlaunch, Host.Outcome.next.injEq, eq_comm]
      exact ⟨fun ht => ⟨hmode, hprem, ht⟩, fun ⟨_, _, ht⟩ => ht⟩
    · have hlaunch : State.launch l = .refused .launchViolated := (if_pos hmode).trans (if_neg hprem)
      simp only [hlaunch, reduceCtorEq, hprem, false_and, and_false]
  · have hlaunch : State.launch l = .refused .legacyMode := if_neg hmode
    simp only [hlaunch, reduceCtorEq, hmode, false_and]

@[simp] theorem readReg_reset (r : RegIdx) : State.reset.readReg r = 0 := by
  simp [State.readReg, State.reset, Vector.get_eq_getElem]

@[simp] theorem readReg_launchedMachine (l : Launch) (r : RegIdx) : (launchedMachine l).readReg r = 0 :=
  readReg_reset r

/-- The cells of a launched machine are the image's; beyond the image a cell is `NonInt` (log 2). -/
@[simp] theorem cellAt_launchedMachine (l : Launch) (n : Nat) :
    (launchedMachine l).cellAt n = l.image.getD n .nonInt :=
  (Memory.cell_ofCells 0 l.image n).trans (if_pos n.zero_le)

/-- Settles O8: an accepted launch answers `launchedMachine`, which takes its registers, `pc` and fault from reset. -/
theorem resetAndLaunchValues : Obligations.ResetAndLaunchValues := by
  refine ⟨readReg_reset, rfl, rfl, fun l t hlaunch => ?_⟩
  obtain ⟨-, -, rfl⟩ := (launch_eq_next_iff l t).1 hlaunch
  exact ⟨readReg_launchedMachine l, rfl, rfl, rfl, rfl, rfl, cellAt_launchedMachine l⟩

theorem isHalted_iff (s : State) : s.isHalted = true ↔ (s.ic : Int) ≤ s.pc.toInt := decide_eq_true_iff

/-- The three statuses cover every state: the fault register decides first, then the halt gate. -/
theorem running_or_halted_or_faulted (s : State) : s.running ∨ s.halted ∨ s.faulted := by
  by_cases hfault : s.fault = none
  · rcases lt_or_ge s.pc.toInt (s.ic : Int) with hlt | hge
    · exact .inl ⟨hfault, hlt⟩
    · exact .inr (.inl ⟨hfault, hge⟩)
  · exact .inr (.inr hfault)

/-- Settles O15: `pc < IC` parts running from halted, and the fault register parts both from faulted. -/
theorem everyStateIsRunningHaltedOrFaulted : Obligations.EveryStateIsRunningHaltedOrFaulted := fun s =>
  ⟨running_or_halted_or_faulted s,
    fun ⟨⟨_, hlt⟩, ⟨_, hge⟩⟩ => Int.not_le.2 hlt hge,
    fun ⟨⟨hnone, _⟩, hfaulted⟩ => hfaulted hnone,
    fun ⟨⟨hnone, _⟩, hfaulted⟩ => hfaulted hnone,
    isHalted_iff s⟩

end Sys2Proof
end

section
/-! 20_memory: what `MemRead` and `Fetch` answer, once for the read they share. -/

namespace Sys2Proof.Machine

/-- A read of any kind out of bounds. -/
theorem State.readCell_outOfBounds {s : State} {i : Int} (kind : DecodeErrorKind)
    (hout : i < 0 ∨ (s.memSize : Int) ≤ i) : s.readCell kind i = .error (.memoryFault i) := by
  simp only [State.readCell, State.memCheck_error hout]

/-- A read of any kind of an integer cell in bounds. -/
theorem State.readCell_int {s : State} {i : Int} {w : Word} (kind : DecodeErrorKind)
    (h0 : 0 ≤ i) (h1 : i < s.memSize) (hcell : s.cellAt i.toNat = .int w) : s.readCell kind i = .ok w := by
  simp only [State.readCell, State.memCheck_ok h0 h1, hcell]

/-- A read of a marker cell in bounds raises the Decode Error of its own kind. -/
theorem State.readCell_nonInt {s : State} {i : Int} (kind : DecodeErrorKind)
    (h0 : 0 ≤ i) (h1 : i < s.memSize) (hcell : s.cellAt i.toNat = .nonInt) :
    s.readCell kind i = .error (.decodeError kind i) := by
  simp only [State.readCell, State.memCheck_ok h0 h1, hcell]

end Sys2Proof.Machine

namespace Sys2Proof

open Machine

/-- Settles O25: `MemRead` and `Fetch` are one `readCell`, each with its own kind of Decode Error. -/
theorem cellReadsFollowTheirPseudocode : Obligations.CellReadsFollowTheirPseudocode := fun _ _ =>
  ⟨fun hout => ⟨State.readCell_outOfBounds .dataNonInt hout, State.readCell_outOfBounds .fetchNonInt hout⟩,
    fun h0 h1 _ hcell => ⟨State.readCell_int .dataNonInt h0 h1 hcell, State.readCell_int .fetchNonInt h0 h1 hcell⟩,
    fun h0 h1 hcell => ⟨State.readCell_nonInt .dataNonInt h0 h1 hcell, State.readCell_nonInt .fetchNonInt h0 h1 hcell⟩⟩

end Sys2Proof
end

section
/-! 30_encoding: what decode produces, once for every opcode (40_cycle R84), and that the spare bits of a Type 0 word
(R63) have no part in it. -/

namespace Sys2Proof

open Machine

theorem type_cases : ∀ t : BitVec 2, t = 0 ∨ t = 1 ∨ t = 2 ∨ t = 3 := by decide

/-! The operand members of a word, one equation per Type. -/

theorem operandsOf_type0 {w : Word} (h : typeOf w = 0) :
    operandsOf w = .type0 (reg1Of w) (reg2Of w) (reg3Of w) (address4Of w) := by simp [operandsOf, h]

theorem operandsOf_type1 {w : Word} (h : typeOf w = 1) :
    operandsOf w = .type13 (reg1Of w) (reg2Of w) (address16Of w) := by simp [operandsOf, h]

theorem operandsOf_type2 {w : Word} (h : typeOf w = 2) : operandsOf w = .type2 (address24Of w) := by
  simp [operandsOf, h]

theorem operandsOf_type3 {w : Word} (h : typeOf w = 3) :
    operandsOf w = .type13 (reg1Of w) (reg2Of w) (address16Of w) := by simp [operandsOf, h]

/-- The operand members of an undefined opcode's word are those its Type supplies. -/
theorem undefOperands_eq_operandsOf (w : Word) : undefOperands (typeOf w) (address24Of w) = operandsOf w := by
  simp (disch := decide) only [undefOperands, operandsOf, reg1Of, reg2Of, reg3Of, address4Of, address16Of,
    address24Of, BitVec.extractLsb'_extractLsb'_of_le]

/-- Instruction `i` is well-formed and stands for the Operand List of `w`: all that decode promises of a word. -/
def IsDecodingOf (w : Word) (i : Instr) : Prop := i.WellFormed ∧ i.operandList = operandListOf w

/-- One defined opcode `n`: if the constructor given for each Type carries that Type, `n` and the fields it is given,
the word's own Type and fields make it a decoding of the word. -/
theorem isDecodingOf_byType {w : Word} {n : Nat} (hop : (opcodeOf w).toNat = n) {t0 t1 t2 t3}
    (h0 : ∀ r1 r2 r3 a, (t0 r1 r2 r3 a).WellFormed ∧
      (t0 r1 r2 r3 a).operandList = ⟨0, BitVec.ofNat 6 n, .type0 r1 r2 r3 a⟩)
    (h1 : ∀ r1 r2 a, (t1 r1 r2 a).WellFormed ∧ (t1 r1 r2 a).operandList = ⟨1, BitVec.ofNat 6 n, .type13 r1 r2 a⟩)
    (h2 : ∀ a, (t2 a).WellFormed ∧ (t2 a).operandList = ⟨2, BitVec.ofNat 6 n, .type2 a⟩)
    (h3 : ∀ r1 r2 a, (t3 r1 r2 a).WellFormed ∧ (t3 r1 r2 a).operandList = ⟨3, BitVec.ofNat 6 n, .type13 r1 r2 a⟩) :
    IsDecodingOf w (byType w t0 t1 t2 t3) := by
  have hopcode : BitVec.ofNat 6 n = opcodeOf w := by rw [← hop, BitVec.ofNat_toNat, BitVec.setWidth_eq]
  rcases type_cases (typeOf w) with ht | ht | ht | ht
  · simpa only [byType_type0 ht, IsDecodingOf, operandListOf, operandsOf_type0 ht, ht, hopcode] using h0 _ _ _ _
  · simpa only [byType_type1 ht, IsDecodingOf, operandListOf, operandsOf_type1 ht, ht, hopcode] using h1 _ _ _
  · simpa only [byType_type2 ht, IsDecodingOf, operandListOf, operandsOf_type2 ht, ht, hopcode] using h2 _
  · simpa only [byType_type3 ht, IsDecodingOf, operandListOf, operandsOf_type3 ht, ht, hopcode] using h3 _ _ _

/-- Decode gives a well-formed instruction that stands for the word's own Operand List (40_cycle R84, R85). -/
theorem isDecodingOf_decode (w : Word) : IsDecodingOf w (decode w) := by
  have hundef : undefOperands (typeOf w) (address24Of w) = operandsOf w := undefOperands_eq_operandsOf w
  unfold decode
  split
  case h_28 hop =>
    have hopcode : opcodeOf w = 27 := BitVec.eq_of_toNat_eq hop
    exact ⟨rfl, by simp only [Instr.operandList, operandListOf, hopcode, hundef]⟩
  case h_29 =>
    have hlow : 28 ≤ (opcodeOf w).toNat := by grind
    split
    case isTrue hhigh =>
      have hwf : Instr.WellFormed (.undef28to31 (typeOf w) (opcodeOf w) (address24Of w)) := by
        simp only [Instr.WellFormed, Instr.wf, Bool.and_eq_true, decide_eq_true_eq]
        omega
      exact ⟨hwf, by simp only [Instr.operandList, operandListOf, hundef]⟩
    case isFalse hhigh =>
      exact ⟨decide_eq_true (Nat.le_of_not_lt hhigh), by simp only [Instr.operandList, operandListOf, hundef]⟩
  all_goals
    rename_i hop
    exact isDecodingOf_byType hop (fun _ _ _ _ => ⟨rfl, rfl⟩) (fun _ _ _ => ⟨rfl, rfl⟩) (fun _ => ⟨rfl, rfl⟩)
      (fun _ _ _ => ⟨rfl, rfl⟩)

theorem wellFormed_decode (w : Word) : (decode w).WellFormed := (isDecodingOf_decode w).1

theorem operandList_decode (w : Word) : (decode w).operandList = operandListOf w := (isDecodingOf_decode w).2

/-- Executing a decoded word is executing its opcode on its Operand List. -/
theorem exec_decode (w : Word) (s : State) :
    exec (decode w) s = byOpcode (operandListOf w).opcode.toNat (operandListOf w).operands s := by
  rw [exec_eq_byOpcode _ (wellFormed_decode w), operandList_decode]

/-- A field above the spare bits depends on `w[31:8]` only. -/
theorem extract_eq_of_high_eq {w w' : Word} (h : w.extractLsb' 8 24 = w'.extractLsb' 8 24) {start len : Nat}
    (hlow : 8 ≤ start) (hhigh : start + len ≤ 32) : w'.extractLsb' start len = w.extractLsb' start len := by
  ext i hi
  have hbit := congrArg (·.getLsbD (start - 8 + i)) h
  have hin : start - 8 + i < 24 := by omega
  have hindex : 8 + (start - 8 + i) = start + i := by omega
  simpa [hin, hindex] using hbit.symm

/-- No member of a Type 0 word's Operand List is cut from its spare bits. -/
theorem operandListOf_eq_of_high_eq {w w' : Word} (ht : typeOf w = 0)
    (h : w.extractLsb' 8 24 = w'.extractLsb' 8 24) : operandListOf w' = operandListOf w := by
  have htype : typeOf w' = typeOf w := extract_eq_of_high_eq h (by decide) (by decide)
  have hopcode : opcodeOf w' = opcodeOf w := extract_eq_of_high_eq h (by decide) (by decide)
  have hreg1 : reg1Of w' = reg1Of w := extract_eq_of_high_eq h (by decide) (by decide)
  have hreg2 : reg2Of w' = reg2Of w := extract_eq_of_high_eq h (by decide) (by decide)
  have hreg3 : reg3Of w' = reg3Of w := extract_eq_of_high_eq h (by decide) (by decide)
  have haddress : address4Of w' = address4Of w := extract_eq_of_high_eq h (by decide) (by decide)
  simp only [operandListOf, operandsOf_type0 ht, operandsOf_type0 (htype.trans ht), htype, hopcode, hreg1, hreg2,
    hreg3, haddress]

/-- Settles O6: both words have one Operand List, and decode and execute go by the Operand List alone; the encoder
appends the spare bits last, as 0. -/
theorem spareBitsOfType0AreIgnored : Obligations.SpareBitsOfType0AreIgnored := by
  refine ⟨fun w w' ht hhigh => ?_, fun _ _ _ _ _ => extract_append_low _ _⟩
  have hlist : operandListOf w' = operandListOf w := operandListOf_eq_of_high_eq ht hhigh
  exact ⟨by rw [operandList_decode, operandList_decode, hlist],
    fun s => by rw [exec_decode, exec_decode, hlist]⟩

end Sys2Proof
end

section
/-! 40_cycle R81 to R84 and R90: where decode cuts the members of the Operand List, the step of a machine about to run
a word, and the undefined opcodes. -/

namespace Sys2Proof

open Machine

/-- A field of a word as a number cut out of the word's value. -/
theorem toNat_extract (w : Word) (start len : Nat) :
    (w.extractLsb' start len).toNat = w.toNat / 2 ^ start % 2 ^ len := by
  rw [BitVec.extractLsb'_toNat, Nat.shiftRight_eq_div_pow]

/-- The Type is the top field, so nothing above it is cut off. -/
theorem toNat_typeOf (w : Word) : (typeOf w).toNat = w.toNat / 2 ^ 30 := by
  rw [typeOf, toNat_extract]
  have hw : w.toNat < 2 ^ 32 := w.isLt
  omega

/-- The two address fields that start at bit 0. -/
theorem toNat_extract_zero (w : Word) (len : Nat) : (w.extractLsb' 0 len).toNat = w.toNat % 2 ^ len := by
  rw [toNat_extract, pow_zero, Nat.div_one]

/-- Settles O4: the Operand List of a decoded word is `operandListOf`, whose members are fields of the word; a Type
fixes which of them are there. -/
theorem decodeCutsTheFieldsAtTheirBitPositions : Obligations.DecodeCutsTheFieldsAtTheirBitPositions := by
  rintro w _ rfl
  rw [operandList_decode]
  have hreg1 : (reg1Of w).toNat = w.toNat / 2 ^ 20 % 16 := toNat_extract w 20 4
  have hreg2 : (reg2Of w).toNat = w.toNat / 2 ^ 16 % 16 := toNat_extract w 16 4
  have hreg3 : (reg3Of w).toNat = w.toNat / 2 ^ 12 % 16 := toNat_extract w 12 4
  have haddress4 : (address4Of w).toNat = w.toNat / 2 ^ 8 % 16 := toNat_extract w 8 4
  have haddress16 : (address16Of w).toNat = w.toNat % 2 ^ 16 := toNat_extract_zero w 16
  have haddress24 : (address24Of w).toNat = w.toNat % 2 ^ 24 := toNat_extract_zero w 24
  refine ⟨toNat_typeOf w, toNat_extract w 24 6, fun ht => ?_, fun ht => ?_, fun ht => ?_⟩
  · rw [operandListOf, operandsOf_type0 ht]
    exact ⟨congrArg some hreg1, congrArg some hreg2, congrArg some hreg3, congrArg some haddress4⟩
  · rw [operandListOf, ht.elim operandsOf_type1 operandsOf_type3]
    exact ⟨congrArg some hreg1, congrArg some hreg2, rfl, congrArg some haddress16⟩
  · rw [operandListOf, operandsOf_type2 ht]
    exact ⟨rfl, rfl, rfl, congrArg some haddress24⟩

/-- A `pc` that is an index is the same number read signed and unsigned. -/
theorem toNat_toInt_of_nonneg {v : Word} (h : 0 ≤ v.toInt) : v.toInt.toNat = v.toNat := by
  have hcond : v.toInt = if 2 * v.toNat < 2 ^ 32 then (v.toNat : Int) else v.toNat - (2 ^ 32 : Nat) :=
    BitVec.toInt_eq_toNat_cond v
  have hv : v.toNat < 2 ^ 32 := v.isLt
  omega

/-- The fetch of a machine about to run `w` answers `w`: below IC every index is in bounds (40_cycle R81). -/
theorem fetchCell_of_aboutToRun {s : State} {w : Word} (h : AboutToRun s w) : s.fetchCell s.pc.toInt = .ok w := by
  obtain ⟨⟨_, _, hic, _⟩, ⟨_, hpc⟩, hnonneg, hcell⟩ := h
  have hbound : s.pc.toInt < s.memSize := by omega
  exact State.readCell_int .fetchNonInt hnonneg hbound (by rwa [toNat_toInt_of_nonneg hnonneg])

@[simp] theorem instrRegister_loadInstrRegister (s : State) (w : Word) :
    (s.loadInstrRegister w).instrRegister = w := State.readReg_writeReg_same s _ w

/-- The step of a machine about to run `w` (40_cycle R82, R83). -/
theorem step_of_aboutToRun {s : State} {w : Word} (h : AboutToRun s w) :
    step s = exec (decode w) (s.loadInstrRegister w) := by
  have hfetch : s.fetchCell s.pc.toInt = .ok w := fetchCell_of_aboutToRun h
  obtain ⟨hlaunch, hrunning, -, -⟩ := h
  rw [step, runCycle, if_pos hlaunch, if_pos hrunning, fetchDecodeExecute, hfetch, State.attempt_ok, decodeExecute,
    instrRegister_loadInstrRegister]

/-! The Operand List cut back out of an encoded word (30_encoding R76), one equation per encoder. -/

@[simp] theorem operandListOf_encode0 (op : BitVec 6) (r1 r2 r3 : RegIdx) (a : BitVec 4) :
    operandListOf (encode0 op r1 r2 r3 a) = ⟨0, op, .type0 r1 r2 r3 a⟩ := by
  obtain ⟨htype, hopcode⟩ := header_encode0 op r1 r2 r3 a
  obtain ⟨hreg1, hreg2, hreg3, haddress⟩ := fields_encode0 op r1 r2 r3 a
  rw [operandListOf, operandsOf_type0 htype, htype, hopcode, hreg1, hreg2, hreg3, haddress]

@[simp] theorem operandListOf_encode1 (op : BitVec 6) (r1 r2 : RegIdx) (a : BitVec 16) :
    operandListOf (encode1 op r1 r2 a) = ⟨1, op, .type13 r1 r2 a⟩ := by
  obtain ⟨htype, hopcode⟩ := header_encode1 op r1 r2 a
  obtain ⟨hreg1, hreg2, haddress⟩ := fields_encode1 op r1 r2 a
  rw [operandListOf, operandsOf_type1 htype, htype, hopcode, hreg1, hreg2, haddress]

@[simp] theorem operandListOf_encode2 (op : BitVec 6) (a : BitVec 24) :
    operandListOf (encode2 op a) = ⟨2, op, .type2 a⟩ := by
  obtain ⟨htype, hopcode⟩ := header_encode2 op a
  rw [operandListOf, operandsOf_type2 htype, htype, hopcode, fields_encode2]

@[simp] theorem operandListOf_encode3 (op : BitVec 6) (r1 r2 : RegIdx) (a : BitVec 16) :
    operandListOf (encode3 op r1 r2 a) = ⟨3, op, .type13 r1 r2 a⟩ := by
  obtain ⟨htype, hopcode⟩ := header_encode3 op r1 r2 a
  obtain ⟨hreg1, hreg2, haddress⟩ := fields_encode3 op r1 r2 a
  rw [operandListOf, operandsOf_type3 htype, htype, hopcode, hreg1, hreg2, haddress]

@[simp] theorem operandListOf_encodeUndef (type : BitVec 2) (op : BitVec 6) (operands : BitVec 24) :
    operandListOf (encodeUndef type op operands) = ⟨type, op, undefOperands type operands⟩ := by
  obtain ⟨htype, hopcode⟩ := header_encodeUndef type op operands
  rw [operandListOf, ← undefOperands_eq_operandsOf, htype, hopcode, fields_encodeUndef]

/-- Every word carries the Operand List of the instruction it was encoded from. -/
theorem operandListOf_encode (i : Instr) : operandListOf (encode i) = i.operandList := by
  cases i <;> simp only [encode, Instr.operandList, operandListOf_encode0, operandListOf_encode1,
    operandListOf_encode2, operandListOf_encode3, operandListOf_encodeUndef]

/-- Execute goes by the Operand List alone, so an instruction and its decoded word execute the same way. -/
theorem exec_decode_encode {i : Instr} (h : i.WellFormed) (s : State) : exec (decode (encode i)) s = exec i s := by
  rw [exec_decode, operandListOf_encode, exec_eq_byOpcode i h]

/-- The fetch write changes register 2 and nothing else (40_cycle R82). -/
theorem loadInstrRegister_frame (s : State) (w : Word) :
    (s.loadInstrRegister w).readReg 2 = w ∧ SameRegsBut 2 s (s.loadInstrRegister w) ∧
      SameCells s (s.loadInstrRegister w) ∧ (s.loadInstrRegister w).pc = s.pc ∧
      (s.loadInstrRegister w).fault = s.fault ∧ SameLaunch s (s.loadInstrRegister w) :=
  ⟨State.readReg_writeReg_same s 2 w, fun _ hr => State.readReg_writeReg_ne s w hr, fun _ => rfl, rfl, rfl, rfl, rfl,
    rfl⟩

/-- Settles O12: the fetch answers the word, and execute sees the state that holds it in register 2. -/
theorem stepExecutesTheFetchedInstruction : Obligations.StepExecutesTheFetchedInstruction := by
  refine ⟨fun _ _ => step_of_aboutToRun, fun s i hwf hrun => ?_, fun s w t ht => ht ▸ loadInstrRegister_frame s w⟩
  rw [step_of_aboutToRun hrun, exec_decode_encode hwf]

/-- Executing an undefined opcode is the sequential advance, whatever the Type and the operand bits (40_cycle R90). -/
theorem exec_decode_undefined {w : Word} (h : 27 ≤ (opcodeOf w).toNat) (s : State) :
    exec (decode w) s = s.advance :=
  (exec_decode w s).trans (byOpcode_undefined h _ s)

/-- Settles O52: the three rows are the sequential advance, and a step before it writes the fetched word. -/
theorem undefinedOpcodesOnlyAdvance : Obligations.UndefinedOpcodesOnlyAdvance := by
  refine ⟨fun _ _ _ => completes_advance rfl, fun _ _ _ _ => completes_advance rfl,
    fun _ _ _ _ => completes_advance rfl, fun s w hrun hop => ?_⟩
  have hstep : step s = (s.loadInstrRegister w).advance := by rw [step_of_aboutToRun hrun, exec_decode_undefined hop]
  obtain ⟨hword, hregs, hcells, -, -, hsame⟩ := loadInstrRegister_frame s w
  obtain ⟨-, ⟨hfault, -⟩, -, -⟩ := hrun
  exact ⟨_, hstep, hword, hregs, hcells, rfl, hfault, hsame⟩

end Sys2Proof
end

section
/-! 40_cycle R86 and R89: what an instruction can do, said once for every opcode. Either its Type lacks an operand and
it raises ARITY, or it ends in one of four ways. -/

namespace Sys2Proof

open Machine

/-- The member is among the operands that the Type supplies (40_cycle R84). -/
def Operands.supplies (D : Operands) : Member → Bool
  | .reg1 => D.reg1.isSome
  | .reg2 => D.reg2.isSome
  | .reg3 => D.reg3.isSome
  | .address => D.address.isSome

/-- The four ways the rule of `i` can end once its operands are there: the one write of 40_cycle R89 and what it leaves
unchanged, or a fatal condition, which is never ARITY. -/
inductive Effect (i : Instr) (s t : State) : Prop
  | register {d : RegIdx} {v : Word} (hdest : destinationOf i = some d) (hwrote : WroteReg d v s t)
  | cell {r : RegIdx} {a : Nat} (hstore : i.operandList.opcode = 1 ∨ i.operandList.opcode = 2)
      (hreg1 : i.operandList.operands.reg1 = some r) (haddress : i.operandList.operands.address = some a) (ha : a ≠ 0)
      (hwrote : WroteCell (s.effectiveAddress a) (s.readReg r) s t)
  | sequence {v : Word} (hwent : WentTo v s t)
  | fatal {f : FatalCondition} (harity : ∀ addr, f ≠ .decodeError .arity addr) (hraised : RaisedOnly f s t)

/-- The result is a next state, reached by one of the four ways. -/
def Ends (i : Instr) (s : State) (r : Result) : Prop := ∃ t, r = .next t ∧ Effect i s t

/-- The result is right for an opcode that needs `needs`: it ends in one of the four ways where they are all supplied,
and is the ARITY fault where one is not. -/
def EndsWith (needs : List Member) (i : Instr) (s : State) (r : Result) : Prop :=
  ((∀ m ∈ needs, i.operandList.operands.supplies m = true) → Ends i s r) ∧
    (¬ (∀ m ∈ needs, i.operandList.operands.supplies m = true) → r = s.raiseArity)

section

variable {i : Instr} {s : State}

/-! The ways to end, one lemma for each shared operation an opcode's rule ends in. -/

theorem ends_finishReg {d : RegIdx} (v : Word) (hdest : destinationOf i = some d) : Ends i s (s.finishReg d v) :=
  ⟨_, rfl, .register hdest (wroteReg_finishReg s d v)⟩

theorem ends_goTo (v : Word) : Ends i s (s.goTo v) := ⟨_, rfl, .sequence (wentTo_setPc s v)⟩

theorem ends_advance : Ends i s s.advance := ends_goTo _

theorem ends_raise {f : FatalCondition} (hf : ∀ addr, f ≠ .decodeError .arity addr) : Ends i s (s.raise f) :=
  ⟨_, rfl, .fatal hf (raisedOnly_setFault s f)⟩

theorem ends_raise_memoryFault (addr : Int) : Ends i s (s.raise (.memoryFault addr)) := ends_raise nofun

theorem ends_raise_arithmeticFault (addr : Int) : Ends i s (s.raise (.arithmeticFault addr)) := ends_raise nofun

theorem ends_attempt_readData {a : Nat} {k : Word → Result} (hk : ∀ v, Ends i s (k v)) :
    Ends i s (s.attempt (s.readData a) k) := by
  rcases Nat.lt_or_ge (s.effectiveAddress a) s.memSize with hin | hout
  · cases hcell : s.cellAt (s.effectiveAddress a) with
    | int v =>
      rw [State.readData_int hin hcell]
      exact hk v
    | nonInt =>
      rw [State.readData_nonInt hin hcell]
      exact ends_raise nofun
  · rw [State.readData_outOfBounds hout]
    exact ends_raise_memoryFault _

theorem ends_attempt_loadOrCopy {src : RegIdx} {a : Nat} {k : Word → Result} (hk : ∀ v, Ends i s (k v)) :
    Ends i s (s.attempt (s.loadOrCopy src a) k) := by
  unfold State.loadOrCopy
  split
  · exact hk _
  · exact ends_attempt_readData hk

theorem ends_storeOrCopy {r1 r2 : RegIdx} {a : Nat}
    (hstore : i.operandList.opcode = 1 ∨ i.operandList.opcode = 2)
    (hreg1 : i.operandList.operands.reg1 = some r1) (haddress : i.operandList.operands.address = some a)
    (hdest : a = 0 → destinationOf i = some r2) : Ends i s (s.storeOrCopy r1 r2 a) := by
  unfold State.storeOrCopy
  split
  case isTrue ha => exact ends_finishReg _ (hdest ha)
  case isFalse ha =>
    rcases Nat.lt_or_ge (s.effectiveAddress a) s.memSize with hin | hout
    · rw [State.writeData_ok _ hin]
      exact ⟨_, rfl, .cell hstore hreg1 haddress ha (wroteCell_putCell s _ _)⟩
    · rw [State.writeData_error _ hout]
      exact ends_raise_memoryFault _

theorem ends_jumpThrough (a : Nat) : Ends i s (s.jumpThrough a) := ends_attempt_readData ends_goTo

theorem ends_branchIf (taken : Bool) (a : Nat) : Ends i s (s.branchIf taken a) := by
  cases taken
  · exact ends_advance
  · exact ends_jumpThrough a

/-! The operand checks, one lemma for each set of needed members: where they are supplied, the continuation runs on
them. -/

theorem endsWith_of_supplied {needs : List Member} {r : Result} (h : Ends i s r)
    (hall : ∀ m ∈ needs, i.operandList.operands.supplies m = true) : EndsWith needs i s r :=
  ⟨fun _ => h, absurd hall⟩

theorem endsWith_raiseArity {needs : List Member}
    (hlacks : ¬ (∀ m ∈ needs, i.operandList.operands.supplies m = true)) : EndsWith needs i s s.raiseArity :=
  ⟨fun hall => absurd hall hlacks, fun _ => rfl⟩

theorem endsWith_needReg1Reg2Address {k : RegIdx → RegIdx → Nat → Result}
    (hk : ∀ r1 r2 a, i.operandList.operands.reg1 = some r1 → i.operandList.operands.reg2 = some r2 →
      i.operandList.operands.address = some a → Ends i s (k r1 r2 a)) :
    EndsWith [.reg1, .reg2, .address] i s (needReg1Reg2Address i.operandList.operands s k) := by
  unfold needReg1Reg2Address
  split
  case h_1 hreg1 hreg2 haddress =>
    exact endsWith_of_supplied (hk _ _ _ hreg1 hreg2 haddress) (by simp [Operands.supplies, hreg1, hreg2, haddress])
  case h_2 hlacks =>
    exact endsWith_raiseArity (by simpa [Operands.supplies, Option.isSome_iff_exists] using
      fun r1 hreg1 r2 hreg2 a haddress => hlacks r1 r2 a hreg1 hreg2 haddress)

theorem endsWith_needReg1Reg2Reg3 {k : RegIdx → RegIdx → RegIdx → Result}
    (hk : ∀ r1 r2 r3, i.operandList.operands.reg1 = some r1 → i.operandList.operands.reg2 = some r2 →
      i.operandList.operands.reg3 = some r3 → Ends i s (k r1 r2 r3)) :
    EndsWith [.reg1, .reg2, .reg3] i s (needReg1Reg2Reg3 i.operandList.operands s k) := by
  unfold needReg1Reg2Reg3
  split
  case h_1 hreg1 hreg2 hreg3 =>
    exact endsWith_of_supplied (hk _ _ _ hreg1 hreg2 hreg3) (by simp [Operands.supplies, hreg1, hreg2, hreg3])
  case h_2 hlacks =>
    exact endsWith_raiseArity (by simpa [Operands.supplies, Option.isSome_iff_exists] using
      fun r1 hreg1 r2 hreg2 r3 hreg3 => hlacks r1 r2 r3 hreg1 hreg2 hreg3)

theorem endsWith_needReg1Reg2 {k : RegIdx → RegIdx → Result}
    (hk : ∀ r1 r2, i.operandList.operands.reg1 = some r1 → i.operandList.operands.reg2 = some r2 →
      Ends i s (k r1 r2)) :
    EndsWith [.reg1, .reg2] i s (needReg1Reg2 i.operandList.operands s k) := by
  unfold needReg1Reg2
  split
  case h_1 hreg1 hreg2 =>
    exact endsWith_of_supplied (hk _ _ hreg1 hreg2) (by simp [Operands.supplies, hreg1, hreg2])
  case h_2 hlacks =>
    exact endsWith_raiseArity (by simpa [Operands.supplies, Option.isSome_iff_exists] using
      fun r1 hreg1 r2 hreg2 => hlacks r1 r2 hreg1 hreg2)

theorem endsWith_needReg2Address {k : RegIdx → Nat → Result}
    (hk : ∀ r2 a, i.operandList.operands.reg2 = some r2 → i.operandList.operands.address = some a →
      Ends i s (k r2 a)) :
    EndsWith [.reg2, .address] i s (needReg2Address i.operandList.operands s k) := by
  unfold needReg2Address
  split
  case h_1 hreg2 haddress =>
    exact endsWith_of_supplied (hk _ _ hreg2 haddress) (by simp [Operands.supplies, hreg2, haddress])
  case h_2 hlacks =>
    exact endsWith_raiseArity (by simpa [Operands.supplies, Option.isSome_iff_exists] using
      fun r2 hreg2 a haddress => hlacks r2 a hreg2 haddress)

theorem endsWith_needReg1Address {k : RegIdx → Nat → Result}
    (hk : ∀ r1 a, i.operandList.operands.reg1 = some r1 → i.operandList.operands.address = some a →
      Ends i s (k r1 a)) :
    EndsWith [.reg1, .address] i s (needReg1Address i.operandList.operands s k) := by
  unfold needReg1Address
  split
  case h_1 hreg1 haddress =>
    exact endsWith_of_supplied (hk _ _ hreg1 haddress) (by simp [Operands.supplies, hreg1, haddress])
  case h_2 hlacks =>
    exact endsWith_raiseArity (by simpa [Operands.supplies, Option.isSome_iff_exists] using
      fun r1 hreg1 a haddress => hlacks r1 a hreg1 haddress)

theorem endsWith_needAddress {k : Nat → Result}
    (hk : ∀ a, i.operandList.operands.address = some a → Ends i s (k a)) :
    EndsWith [.address] i s (needAddress i.operandList.operands s k) := by
  unfold needAddress
  split
  case h_1 haddress =>
    exact endsWith_of_supplied (hk _ haddress) (by simp [Operands.supplies, haddress])
  case h_2 hnone => exact endsWith_raiseArity (by simp [Operands.supplies, hnone])

end

/-! The destination column of `destinationOf`, one equation for each field it names. -/

section

variable {i : Instr}

theorem destinationOf_eq_reg1 (hop : i.operandList.opcode.toNat = 0 ∨ i.operandList.opcode.toNat = 4) :
    destinationOf i = i.operandList.operands.reg1 := if_pos hop

theorem destinationOf_eq_reg2 (hop : i.operandList.opcode.toNat = 3 ∨
      (11 ≤ i.operandList.opcode.toNat ∧ i.operandList.opcode.toNat ≤ 15) ∨ i.operandList.opcode.toNat = 17) :
    destinationOf i = i.operandList.operands.reg2 :=
  (if_neg (by omega)).trans ((if_neg (by omega)).trans (if_pos hop))

theorem destinationOf_eq_reg3 (hop :
      (5 ≤ i.operandList.opcode.toNat ∧ i.operandList.opcode.toNat ≤ 10) ∨ i.operandList.opcode.toNat = 16) :
    destinationOf i = i.operandList.operands.reg3 :=
  (if_neg (by omega)).trans ((if_neg (by omega)).trans ((if_neg (by omega)).trans (if_pos hop)))

theorem destinationOf_store_sentinel (hop : i.operandList.opcode.toNat = 1 ∨ i.operandList.opcode.toNat = 2)
    (ha : i.operandList.operands.address = some 0) : destinationOf i = i.operandList.operands.reg2 :=
  (if_neg (by omega)).trans ((if_pos hop).trans (if_pos ha))

end

/-! The rules of the opcodes that write a register or a cell. -/

section

variable {i : Instr} {s : State}

theorem endsWith_opRd (hdest : destinationOf i = i.operandList.operands.reg1) :
    EndsWith [.reg1, .reg2, .address] i s (opRd i.operandList.operands s) :=
  endsWith_needReg1Reg2Address fun _ _ _ hreg1 _ _ =>
    ends_attempt_loadOrCopy fun v => ends_finishReg v (hdest.trans hreg1)

/-- `WR` and `ST` are one rule, `storeOrCopy`. -/
theorem endsWith_storeOrCopy (hop : i.operandList.opcode.toNat = 1 ∨ i.operandList.opcode.toNat = 2) :
    EndsWith [.reg1, .reg2, .address] i s
      (needReg1Reg2Address i.operandList.operands s fun r1 r2 a => s.storeOrCopy r1 r2 a) :=
  endsWith_needReg1Reg2Address fun _ _ _ hreg1 hreg2 haddress =>
    ends_storeOrCopy (hop.imp BitVec.eq_of_toNat_eq BitVec.eq_of_toNat_eq) hreg1 haddress
      fun ha => (destinationOf_store_sentinel hop (ha ▸ haddress)).trans hreg2

theorem endsWith_opLw (hdest : destinationOf i = i.operandList.operands.reg2) :
    EndsWith [.reg1, .reg2, .address] i s (opLw i.operandList.operands s) :=
  endsWith_needReg1Reg2Address fun _ _ _ _ hreg2 _ =>
    ends_attempt_loadOrCopy fun v => ends_finishReg v (hdest.trans hreg2)

theorem endsWith_opMov (hdest : destinationOf i = i.operandList.operands.reg1) :
    EndsWith [.reg1, .reg2] i s (opMov i.operandList.operands s) :=
  endsWith_needReg1Reg2 fun _ _ hreg1 _ => ends_finishReg _ (hdest.trans hreg1)

theorem endsWith_threeReg (f : Word → Word → Word) (hdest : destinationOf i = i.operandList.operands.reg3) :
    EndsWith [.reg1, .reg2, .reg3] i s (threeReg f i.operandList.operands s) :=
  endsWith_needReg1Reg2Reg3 fun _ _ _ _ _ hreg3 => ends_finishReg _ (hdest.trans hreg3)

theorem endsWith_opDiv (hdest : destinationOf i = i.operandList.operands.reg3) :
    EndsWith [.reg1, .reg2, .reg3] i s (opDiv i.operandList.operands s) := by
  refine endsWith_needReg1Reg2Reg3 fun _ _ _ _ _ hreg3 => ?_
  split
  · exact ends_raise_arithmeticFault _
  · exact ends_finishReg _ (hdest.trans hreg3)

theorem endsWith_combineData (f : Word → Word → Word) (hdest : destinationOf i = i.operandList.operands.reg2) :
    EndsWith [.reg2, .address] i s (combineData f i.operandList.operands s) :=
  endsWith_needReg2Address fun _ _ hreg2 _ =>
    ends_attempt_readData fun _ => ends_finishReg _ (hdest.trans hreg2)

theorem endsWith_opDivi (hdest : destinationOf i = i.operandList.operands.reg2) :
    EndsWith [.reg2, .address] i s (opDivi i.operandList.operands s) := by
  refine endsWith_needReg2Address fun _ _ hreg2 _ => ends_attempt_readData fun _ => ?_
  split
  · exact ends_raise_arithmeticFault _
  · exact ends_finishReg _ (hdest.trans hreg2)

theorem endsWith_opSlti (hdest : destinationOf i = i.operandList.operands.reg2) :
    EndsWith [.reg1, .reg2, .address] i s (opSlti i.operandList.operands s) :=
  endsWith_needReg1Reg2Address fun _ _ _ _ hreg2 _ =>
    ends_attempt_readData fun _ => ends_finishReg _ (hdest.trans hreg2)

end

theorem needsOf_undefined {n : Nat} (h : 27 ≤ n) : needsOf n = [] := by
  simp (disch := omega) only [needsOf, if_neg]

/-- What executing a well-formed instruction can do, one case for each opcode. -/
theorem endsWith_exec {i : Instr} (hwf : i.WellFormed) (s : State) :
    EndsWith (needsOf i.operandList.opcode.toNat) i s (exec i s) := by
  rw [exec_eq_byOpcode i hwf]
  generalize hop : i.operandList.opcode.toNat = n
  match n, hop with
  | 0, hop => exact endsWith_opRd (destinationOf_eq_reg1 (.inl hop))
  | 1, hop => exact endsWith_storeOrCopy (.inl hop)
  | 2, hop => exact endsWith_storeOrCopy (.inr hop)
  | 3, hop => exact endsWith_opLw (destinationOf_eq_reg2 (.inl hop))
  | 4, hop => exact endsWith_opMov (destinationOf_eq_reg1 (.inr hop))
  | 5, hop => exact endsWith_threeReg _ (destinationOf_eq_reg3 (by omega))
  | 6, hop => exact endsWith_threeReg _ (destinationOf_eq_reg3 (by omega))
  | 7, hop => exact endsWith_threeReg _ (destinationOf_eq_reg3 (by omega))
  | 8, hop => exact endsWith_opDiv (destinationOf_eq_reg3 (by omega))
  | 9, hop => exact endsWith_threeReg (fun a b => boolWord (valuesEqual a b)) (destinationOf_eq_reg3 (by omega))
  | 10, hop => exact endsWith_threeReg (fun a b => boolWord (eitherIsOne a b)) (destinationOf_eq_reg3 (by omega))
  | 11, hop => exact endsWith_combineData (fun _ v => v) (destinationOf_eq_reg2 (by omega))
  | 12, hop => exact endsWith_combineData _ (destinationOf_eq_reg2 (by omega))
  | 13, hop => exact endsWith_combineData _ (destinationOf_eq_reg2 (by omega))
  | 14, hop => exact endsWith_opDivi (destinationOf_eq_reg2 (by omega))
  | 15, hop => exact endsWith_combineData (fun _ v => v) (destinationOf_eq_reg2 (by omega))
  | 16, hop => exact endsWith_threeReg (fun a b => boolWord (signedLess a b)) (destinationOf_eq_reg3 (by omega))
  | 17, hop => exact endsWith_opSlti (destinationOf_eq_reg2 (by omega))
  | 18, _ => exact endsWith_of_supplied (ends_goTo _) nofun
  | 19, _ => exact endsWith_of_supplied ends_advance nofun
  | 20, _ => exact endsWith_needAddress fun a _ => ends_jumpThrough a
  | 21, _ => exact endsWith_needReg1Reg2Address fun _ _ a _ _ _ => ends_branchIf _ a
  | 22, _ => exact endsWith_needReg1Reg2Address fun _ _ a _ _ _ => ends_branchIf _ a
  | 23, _ => exact endsWith_needReg1Address fun _ a _ _ => ends_branchIf _ a
  | 24, _ => exact endsWith_needReg1Address fun _ a _ _ => ends_branchIf _ a
  | 25, _ => exact endsWith_needReg1Address fun _ a _ _ => ends_branchIf _ a
  | 26, _ => exact endsWith_needReg1Address fun _ a _ _ => ends_branchIf _ a
  | n + 27, _ =>
    have hundef : 27 ≤ n + 27 := Nat.le_add_left 27 n
    rw [needsOf_undefined hundef, byOpcode_undefined hundef]
    exact endsWith_of_supplied ends_advance nofun

/-! ## The ARITY fault (40_cycle R86) -/

/-- The Type's row of 30_encoding R68 names the members that decode finds in the word. -/
theorem contains_suppliesOf (w : Word) (m : Member) :
    (suppliesOf (typeOf w).toNat).contains m = (operandsOf w).supplies m := by
  rcases type_cases (typeOf w) with ht | ht | ht | ht
  · rw [operandsOf_type0 ht, ht]
    cases m <;> rfl
  · rw [operandsOf_type1 ht, ht]
    cases m <;> rfl
  · rw [operandsOf_type2 ht, ht]
    cases m <;> rfl
  · rw [operandsOf_type3 ht, ht]
    cases m <;> rfl

/-- A pair of an opcode and a Type lacks no operand exactly where the word's Operand List supplies all it needs. -/
theorem lacksOperand_eq_false_iff (w : Word) (n : Nat) :
    lacksOperand n (typeOf w).toNat = false ↔ ∀ m ∈ needsOf n, (operandsOf w).supplies m = true := by
  simp only [lacksOperand, contains_suppliesOf, List.any_eq_false, Bool.not_eq_true', Bool.not_eq_false]

/-- An effect leaves the fault register alone, or records a fatal condition other than ARITY and nothing else. -/
theorem Effect.sameFault_or_raisedOnly {i : Instr} {s t : State} (h : Effect i s t) :
    t.fault = s.fault ∨ ∃ f, (∀ addr, f ≠ .decodeError .arity addr) ∧ RaisedOnly f s t := by
  cases h with
  | register _ hwrote => obtain ⟨-, -, -, -, hfault, -⟩ := hwrote; exact .inl hfault
  | cell _ _ _ _ hwrote => obtain ⟨-, -, -, -, hfault, -⟩ := hwrote; exact .inl hfault
  | sequence hwent => obtain ⟨-, -, -, hfault, -⟩ := hwent; exact .inl hfault
  | fatal harity hraised => exact .inr ⟨_, harity, hraised⟩

/-- No effect records an ARITY fault that was not there before. -/
theorem Effect.fault_ne_arity {i : Instr} {s t : State} (h : Effect i s t) (hs : s.fault = none) (addr : Int) :
    t.fault ≠ some (.decodeError .arity addr) := by
  rcases h.sameFault_or_raisedOnly with hsame | ⟨f, harity, hfault, -⟩
  · simp [hsame, hs]
  · simpa [hfault] using harity addr

/-- Settles O7: `endsWith_exec` on the decoded word, whose Operand List supplies what its Type does. -/
theorem arityFaultExactlyWhereAnOperandIsMissing : Obligations.ArityFaultExactlyWhereAnOperandIsMissing := by
  refine ⟨fun w s => ?_, by decide⟩
  obtain ⟨hends, harity⟩ := endsWith_exec (wellFormed_decode w) s
  rw [operandList_decode, operandListOf, ← lacksOperand_eq_false_iff] at hends harity
  refine ⟨fun hlacks => completes_raise (harity (by simp [hlacks])), fun hsupplied hs => ?_⟩
  obtain ⟨t, hexec, heffect⟩ := hends hsupplied
  exact ⟨t, hexec, heffect.fault_ne_arity hs⟩

/-! ## At most one write (40_cycle R89) -/

/-- The two rows for several undefined opcodes advance whatever opcode they carry; every other instruction is
well-formed. -/
theorem exec_of_not_wellFormed {i : Instr} (h : ¬ i.WellFormed) (s : State) : exec i s = s.advance := by
  cases i with
  | undef28to31 | undef32to63 => rfl
  | _ => exact absurd rfl h

/-- Every instruction ends in one of the four ways or raises ARITY. -/
theorem effect_or_raisedArity {i : Instr} {s t : State} (h : exec i s = .next t) :
    Effect i s t ∨ RaisedOnly (.decodeError .arity s.pc.toInt) s t := by
  have hends : Ends i s (exec i s) ∨ exec i s = s.raiseArity := by
    by_cases hwf : i.WellFormed
    · obtain ⟨hends, harity⟩ := endsWith_exec hwf s
      exact (em _).imp hends harity
    · rw [exec_of_not_wellFormed hwf]
      exact .inl ends_advance
  rcases hends with ⟨u, hu, heffect⟩ | harity
  · exact .inl (Host.Outcome.next.inj (hu.symm.trans h) ▸ heffect)
  · exact .inr (Host.Outcome.next.inj (harity.symm.trans h) ▸ raisedOnly_setFault s _)

/-- No Type 2 instruction has a `reg1` (30_encoding R62). -/
theorem reg1_eq_none_of_type2 {i : Instr} (h : i.operandList.type = 2) : i.operandList.operands.reg1 = none := by
  rw [← operandListOf_encode] at h ⊢
  exact congrArg Operands.reg1 (operandsOf_type2 h)

theorem WroteReg.sameCells {d : RegIdx} {v : Word} {s t : State} (h : WroteReg d v s t) : SameCells s t := by
  obtain ⟨-, -, hcells, -⟩ := h
  exact hcells

theorem WentTo.sameCells {v : Word} {s t : State} (h : WentTo v s t) : SameCells s t := by
  obtain ⟨-, -, hcells, -⟩ := h
  exact hcells

theorem RaisedOnly.sameCells {f : FatalCondition} {s t : State} (h : RaisedOnly f s t) : SameCells s t := by
  obtain ⟨-, -, -, hcells, -⟩ := h
  exact hcells

/-- The only cell that an effect changes is the one a store writes. -/
theorem Effect.storesOnlyAtItsAddress {i : Instr} {s t : State} (h : Effect i s t) : StoresOnlyAtItsAddress i s t := by
  cases h with
  | register _ hwrote => exact storesOnlyAtItsAddress_of_sameCells hwrote.sameCells
  | sequence hwent => exact storesOnlyAtItsAddress_of_sameCells hwent.sameCells
  | fatal _ hraised => exact storesOnlyAtItsAddress_of_sameCells hraised.sameCells
  | cell hstore hreg1 haddress ha hwrote =>
    obtain ⟨-, hcells, -⟩ := hwrote
    refine ⟨fun a _ ha' _ => ?_, ?_⟩
    · rwa [← Option.some.inj (haddress.symm.trans ha')]
    · rintro (⟨hne1, hne2⟩ | htype | hzero)
      · exact (hstore.elim hne1 hne2).elim
      · exact absurd (hreg1.symm.trans (reg1_eq_none_of_type2 htype)) nofun
      · exact absurd (Option.some.inj (haddress.symm.trans hzero)) ha

/-- A fault that was not there before is the one thing the instruction wrote. -/
theorem Effect.raisedOnly_of_faulted {i : Instr} {s t : State} (h : Effect i s t) (hs : s.fault = none)
    (ht : t.faulted) : ∃ f, RaisedOnly f s t := by
  rcases h.sameFault_or_raisedOnly with hsame | ⟨f, -, hraised⟩
  · exact absurd (hsame.trans hs) ht
  · exact ⟨f, hraised⟩

/-- Settles O20: the four ways to end are the four disjuncts, and ARITY is a fatal condition like the others. -/
theorem everyInstructionMakesAtMostOneWrite : Obligations.EveryInstructionMakesAtMostOneWrite := by
  refine ⟨fun i s t hexec => ?_, fun i s t hs hexec ht => ?_, fun r a s => completes_finishReg rfl⟩
  · rcases effect_or_raisedArity hexec with heffect | hraised
    · refine ⟨?_, heffect.storesOnlyAtItsAddress⟩
      cases heffect with
      | register hdest hwrote => exact .inl ⟨_, _, hdest, hwrote⟩
      | cell hstore hreg1 haddress ha hwrote => exact .inr (.inl ⟨_, _, hstore, hreg1, haddress, ha, hwrote⟩)
      | sequence hwent => exact .inr (.inr (.inl ⟨_, hwent⟩))
      | fatal _ hraised => exact .inr (.inr (.inr ⟨_, hraised⟩))
    · exact ⟨.inr (.inr (.inr ⟨_, hraised⟩)), storesOnlyAtItsAddress_of_sameCells hraised.sameCells⟩
  · rcases effect_or_raisedArity hexec with heffect | hraised
    · exact heffect.raisedOnly_of_faulted hs ht
    · exact ⟨_, hraised⟩

end Sys2Proof
end

section
/-! 30_encoding R68: what the four forms of an opcode have in common, said once for the opcodes that execute in Types 0,
1 and 3. -/

namespace Sys2Proof

open Machine

section

variable {opcode : BitVec 6} {t0 : RegIdx → RegIdx → RegIdx → BitVec 4 → Instr}
  {t1 : RegIdx → RegIdx → BitVec 16 → Instr} {t2 : BitVec 24 → Instr} {t3 : RegIdx → RegIdx → BitVec 16 → Instr}
  {P Q : Instr → RegIdx → RegIdx → Nat → Prop} {run : RegIdx → RegIdx → Nat → State → Result}

/-- The header of an instruction's word is read off its Operand List. -/
theorem hasHeader_of_operandList {i : Instr} {type : BitVec 2} {D : Operands}
    (hlist : i.operandList = ⟨type, opcode, D⟩) : HasHeader i type opcode := by
  rw [← operandListOf_encode] at hlist
  exact ⟨congrArg OperandList.type hlist, congrArg OperandList.opcode hlist⟩

/-- The three executing forms run `run` on the fields they share, whatever Type they come in, and the Type 2 form raises
ARITY. The hypotheses are the rows of `Instr.operandList` and the arms of `exec`, which every opcode has by `rfl`. -/
theorem inTypes013_exec_eq
    (list0 : ∀ r1 r2 r3 a, (t0 r1 r2 r3 a).operandList = ⟨0, opcode, .type0 r1 r2 r3 a⟩ := by intros; rfl)
    (list1 : ∀ r1 r2 a, (t1 r1 r2 a).operandList = ⟨1, opcode, .type13 r1 r2 a⟩ := by intros; rfl)
    (list2 : ∀ a, (t2 a).operandList = ⟨2, opcode, .type2 a⟩ := by intros; rfl)
    (list3 : ∀ r1 r2 a, (t3 r1 r2 a).operandList = ⟨3, opcode, .type13 r1 r2 a⟩ := by intros; rfl)
    (exec0 : ∀ r1 r2 r3 a s, exec (t0 r1 r2 r3 a) s = run r1 r2 a.toNat s := by intros; rfl)
    (exec1 : ∀ r1 r2 a s, exec (t1 r1 r2 a) s = run r1 r2 a.toNat s := by intros; rfl)
    (exec2 : ∀ a s, exec (t2 a) s = s.raiseArity := by intros; rfl)
    (exec3 : ∀ r1 r2 a s, exec (t3 r1 r2 a) s = run r1 r2 a.toNat s := by intros; rfl) :
    InTypes013 opcode t0 t1 t2 t3 fun i r1 r2 a => ∀ s, exec i s = run r1 r2 a s :=
  ⟨fun r1 r2 r3 a => ⟨hasHeader_of_operandList (list0 r1 r2 r3 a), exec0 r1 r2 r3 a⟩,
    fun r1 r2 a => ⟨hasHeader_of_operandList (list1 r1 r2 a), exec1 r1 r2 a⟩,
    fun a => ⟨hasHeader_of_operandList (list2 a), fun s => completes_raise (exec2 a s)⟩,
    fun r1 r2 a => ⟨hasHeader_of_operandList (list3 r1 r2 a), exec3 r1 r2 a⟩⟩

/-- What follows from how an executing form runs holds of the opcode. -/
theorem InTypes013.imp (h : InTypes013 opcode t0 t1 t2 t3 P) (himp : ∀ {i r1 r2 a}, P i r1 r2 a → Q i r1 r2 a) :
    InTypes013 opcode t0 t1 t2 t3 Q := by
  obtain ⟨h0, h1, h2, h3⟩ := h
  exact ⟨fun r1 r2 r3 a => (h0 r1 r2 r3 a).imp_right himp, fun r1 r2 a => (h1 r1 r2 a).imp_right himp, h2,
    fun r1 r2 a => (h3 r1 r2 a).imp_right himp⟩

end

end Sys2Proof
end

section
/-! 41_move: the loads, the stores and the memory-operand arithmetic. -/

namespace Sys2Proof.Machine

/-! The two branches of the address operand's sentinel 0 (41_move R109). -/

theorem State.loadOrCopy_sentinel (s : State) (src : RegIdx) : s.loadOrCopy src 0 = .ok (s.readReg src) := rfl

theorem State.loadOrCopy_of_ne {a : Nat} (s : State) (src : RegIdx) (ha : a ≠ 0) :
    s.loadOrCopy src a = s.readData a := if_neg ha

theorem State.storeOrCopy_sentinel (s : State) (src dst : RegIdx) :
    s.storeOrCopy src dst 0 = s.finishReg dst (s.readReg src) := rfl

theorem State.storeOrCopy_of_ne {a : Nat} (s : State) (src dst : RegIdx) (ha : a ≠ 0) :
    s.storeOrCopy src dst a = s.attempt (s.writeData a (s.readReg src)) State.advance := if_neg ha

end Sys2Proof.Machine

namespace Sys2Proof

open Machine

/-! How the executing forms of each opcode run (41_move R100 to R108). -/

theorem exec_rd : InTypes013 0 .rdT0 .rdT1 .rdT2 .rdT3 fun i r1 r2 a => ∀ s,
    exec i s = s.attempt (s.loadOrCopy r2 a) (s.finishReg r1) := inTypes013_exec_eq

theorem exec_wr : InTypes013 1 .wrT0 .wrT1 .wrT2 .wrT3 fun i r1 r2 a => ∀ s,
    exec i s = s.storeOrCopy r1 r2 a := inTypes013_exec_eq

theorem exec_st : InTypes013 2 .stT0 .stT1 .stT2 .stT3 fun i r1 r2 a => ∀ s,
    exec i s = s.storeOrCopy r1 r2 a := inTypes013_exec_eq

theorem exec_lw : InTypes013 3 .lwT0 .lwT1 .lwT2 .lwT3 fun i r1 r2 a => ∀ s,
    exec i s = s.attempt (s.loadOrCopy r1 a) (s.finishReg r2) := inTypes013_exec_eq

theorem exec_movi : InTypes013 11 .moviT0 .moviT1 .moviT2 .moviT3 fun i _ r2 a => ∀ s,
    exec i s = s.attempt (s.readData a) (s.finishReg r2) := inTypes013_exec_eq

theorem exec_addi : InTypes013 12 .addiT0 .addiT1 .addiT2 .addiT3 fun i _ r2 a => ∀ s,
    exec i s = s.attempt (s.readData a) fun v => s.finishReg r2 (addWord (s.readReg r2) v) := inTypes013_exec_eq

theorem exec_muli : InTypes013 13 .muliT0 .muliT1 .muliT2 .muliT3 fun i _ r2 a => ∀ s,
    exec i s = s.attempt (s.readData a) fun v => s.finishReg r2 (mulWord (s.readReg r2) v) := inTypes013_exec_eq

theorem exec_divi : InTypes013 14 .diviT0 .diviT1 .diviT2 .diviT3 fun i _ r2 a => ∀ s,
    exec i s = s.attempt (s.readData a) fun v =>
      if v = 0 then s.raise (.arithmeticFault s.pc.toInt) else s.finishReg r2 (tdiv (s.readReg r2) v) :=
  inTypes013_exec_eq

theorem exec_ldi : InTypes013 15 .ldiT0 .ldiT1 .ldiT2 .ldiT3 fun i _ r2 a => ∀ s,
    exec i s = s.attempt (s.readData a) (s.finishReg r2) := inTypes013_exec_eq

section

variable {i : Instr} {s : State} {src dst : RegIdx} {a : Nat}

/-- An instruction that writes the cell's value to a register. -/
theorem readsData_finishReg (h : exec i s = s.attempt (s.readData a) (s.finishReg dst)) :
    ReadsData i s a fun v => WroteReg dst v :=
  readsData_of h fun v _ => ⟨_, rfl, wroteReg_finishReg s dst v⟩

/-- An instruction that writes `wrap32` of an integer computed from the cell's value. -/
theorem readsData_finishReg_wrap32 {n : Word → Int}
    (h : exec i s = s.attempt (s.readData a) fun v => s.finishReg dst (wrap32 (n v))) :
    ReadsData i s a fun v _ t => ∃ m : Word, IsWrap32 (n v) m.toInt ∧ WroteReg dst m s t :=
  readsData_of h fun v _ => ⟨_, rfl, _, isWrap32_wrap32 (n v), wroteReg_finishReg s dst _⟩

/-- `RD` and `LW`: a register copy with the sentinel, a data read without it. -/
theorem completes_loadOrCopy (h : exec i s = s.attempt (s.loadOrCopy src a) (s.finishReg dst)) :
    (a = 0 → Completes i s (WroteReg dst (s.readReg src))) ∧
      (a ≠ 0 → ReadsData i s a fun v => WroteReg dst v) := by
  constructor
  · rintro rfl
    rw [State.loadOrCopy_sentinel, State.attempt_ok] at h
    exact completes_finishReg h
  · intro ha
    rw [State.loadOrCopy_of_ne s src ha] at h
    exact readsData_finishReg h

/-- `WR` and `ST`: a register copy with the sentinel; without it a store that only the bounds check can stop. -/
theorem completes_storeOrCopy (h : exec i s = s.storeOrCopy src dst a) :
    (a = 0 → Completes i s (WroteReg dst (s.readReg src))) ∧
      (a ≠ 0 → InBounds s a → Completes i s (WroteCell (s.effectiveAddress a) (s.readReg src))) ∧
      (a ≠ 0 → OutOfBounds s a → Completes i s (RaisedOnly (.memoryFault (s.effectiveAddress a)))) := by
  refine ⟨?_, fun ha hin => ?_, fun ha hout => ?_⟩
  · rintro rfl
    rw [State.storeOrCopy_sentinel] at h
    exact completes_finishReg h
  · rw [State.storeOrCopy_of_ne s src dst ha, State.writeData_ok _ hin] at h
    exact ⟨_, h, wroteCell_putCell s _ _⟩
  · rw [State.storeOrCopy_of_ne s src dst ha, State.writeData_error _ hout] at h
    exact completes_raise h

end

/-- The quotient that 42_alu R121 spells out in signs and absolute values is the one rounded toward zero. -/
theorem tdiv_eq_wrap32 (a b : Word) : tdiv a b = wrap32 (Int.tdiv a.toInt b.toInt) := by
  refine congrArg wrap32 ?_
  generalize a.toInt = x, b.toInt = y
  rw [← Int.sign_mul_natAbs (x.tdiv y), Int.sign_tdiv, Int.natAbs_tdiv]
  split
  case isTrue hlt => rw [Nat.div_eq_of_lt hlt, Int.natCast_zero, mul_zero, zero_mul]
  case isFalse => rfl

/-- Settles O34: `RD` is the load or copy from `reg2` into `reg1`. -/
theorem rdCopiesDataOrReg2IntoReg1 : Obligations.RdCopiesDataOrReg2IntoReg1 :=
  exec_rd.imp fun hexec s => completes_loadOrCopy (hexec s)

/-- Settles O35: `WR` and `ST` are the one store or copy of `reg1`. -/
theorem wrAndStCopyReg1IntoDataOrReg2 : Obligations.WrAndStCopyReg1IntoDataOrReg2 :=
  ⟨exec_wr.imp fun hexec s => completes_storeOrCopy (hexec s),
    exec_st.imp fun hexec s => completes_storeOrCopy (hexec s)⟩

/-- Settles O36: `LW` is the load or copy from `reg1` into `reg2`. -/
theorem lwCopiesDataOrReg1IntoReg2 : Obligations.LwCopiesDataOrReg1IntoReg2 :=
  exec_lw.imp fun hexec s => completes_loadOrCopy (hexec s)

/-- Settles O41: `MOVI` and `LDI` read the cell for every address operand and write it to `reg2`. -/
theorem moviAndLdiLoadReg2 : Obligations.MoviAndLdiLoadReg2 :=
  ⟨exec_movi.imp fun hexec s => readsData_finishReg (hexec s),
    exec_ldi.imp fun hexec s => readsData_finishReg (hexec s)⟩

/-- Settles O42: `addWord` and `mulWord` are `wrap32` of the exact sum and product. -/
theorem addiAndMuliCombineDataIntoReg2 : Obligations.AddiAndMuliCombineDataIntoReg2 :=
  ⟨exec_addi.imp fun hexec s => readsData_finishReg_wrap32 (hexec s),
    exec_muli.imp fun hexec s => readsData_finishReg_wrap32 (hexec s)⟩

/-- Settles O43: after the read, a zero cell raises and any other divides, by `tdiv_eq_wrap32`. -/
theorem diviDividesReg2ByDataOrRaises : Obligations.DiviDividesReg2ByDataOrRaises :=
  exec_divi.imp fun {i _ r2 a} hexec s => readsData_of (hexec s) fun v _ => by
    by_cases hv : v = 0
    · exact ⟨_, if_pos hv, fun _ => raisedOnly_setFault s _, absurd hv⟩
    · refine ⟨_, if_neg hv, fun h0 => absurd h0 hv, fun _ => ⟨_, ?_, wroteReg_finishReg s r2 _⟩⟩
      rw [tdiv_eq_wrap32]
      exact isWrap32_wrap32 _

end Sys2Proof
end

section
/-! 42_alu: the register ALU and the comparisons, after what the opcodes that execute in Type 0 only have in common
(30_encoding R68). -/

namespace Sys2Proof

open Machine

section

variable {opcode : BitVec 6} {t0 : RegIdx → RegIdx → RegIdx → BitVec 4 → Instr}
  {t1 : RegIdx → RegIdx → BitVec 16 → Instr} {t2 : BitVec 24 → Instr} {t3 : RegIdx → RegIdx → BitVec 16 → Instr}
  {P Q : Instr → RegIdx → RegIdx → RegIdx → Prop} {run : RegIdx → RegIdx → RegIdx → State → Result}

/-- The Type 0 form runs `run` on its three register fields, and the other forms raise ARITY. The hypotheses are the
rows of `Instr.operandList` and the arms of `exec`, which every opcode has by `rfl`. -/
theorem inType0_exec_eq
    (list0 : ∀ r1 r2 r3 a, (t0 r1 r2 r3 a).operandList = ⟨0, opcode, .type0 r1 r2 r3 a⟩ := by intros; rfl)
    (list1 : ∀ r1 r2 a, (t1 r1 r2 a).operandList = ⟨1, opcode, .type13 r1 r2 a⟩ := by intros; rfl)
    (list2 : ∀ a, (t2 a).operandList = ⟨2, opcode, .type2 a⟩ := by intros; rfl)
    (list3 : ∀ r1 r2 a, (t3 r1 r2 a).operandList = ⟨3, opcode, .type13 r1 r2 a⟩ := by intros; rfl)
    (exec0 : ∀ r1 r2 r3 a s, exec (t0 r1 r2 r3 a) s = run r1 r2 r3 s := by intros; rfl)
    (exec1 : ∀ r1 r2 a s, exec (t1 r1 r2 a) s = s.raiseArity := by intros; rfl)
    (exec2 : ∀ a s, exec (t2 a) s = s.raiseArity := by intros; rfl)
    (exec3 : ∀ r1 r2 a s, exec (t3 r1 r2 a) s = s.raiseArity := by intros; rfl) :
    InType0 opcode t0 t1 t2 t3 fun i r1 r2 r3 => ∀ s, exec i s = run r1 r2 r3 s :=
  ⟨fun r1 r2 r3 a => ⟨hasHeader_of_operandList (list0 r1 r2 r3 a), exec0 r1 r2 r3 a⟩,
    fun r1 r2 a => ⟨hasHeader_of_operandList (list1 r1 r2 a), fun s => completes_raise (exec1 r1 r2 a s)⟩,
    fun a => ⟨hasHeader_of_operandList (list2 a), fun s => completes_raise (exec2 a s)⟩,
    fun r1 r2 a => ⟨hasHeader_of_operandList (list3 r1 r2 a), fun s => completes_raise (exec3 r1 r2 a s)⟩⟩

/-- What follows from how the Type 0 form runs holds of the opcode. -/
theorem InType0.imp (h : InType0 opcode t0 t1 t2 t3 P) (himp : ∀ {i r1 r2 r3}, P i r1 r2 r3 → Q i r1 r2 r3) :
    InType0 opcode t0 t1 t2 t3 Q := by
  obtain ⟨h0, hothers⟩ := h
  exact ⟨fun r1 r2 r3 a => (h0 r1 r2 r3 a).imp_right himp, hothers⟩

end

/-! How the executing forms of each opcode run (42_alu R110 to R118). -/

theorem exec_mov : InTypes013 4 .movT0 .movT1 .movT2 .movT3 fun i r1 r2 _ => ∀ s,
    exec i s = s.finishReg r1 (s.readReg r2) := inTypes013_exec_eq

theorem exec_add : InType0 5 .addT0 .addT1 .addT2 .addT3 fun i r1 r2 r3 => ∀ s,
    exec i s = s.finishReg r3 (addWord (s.readReg r1) (s.readReg r2)) := inType0_exec_eq

theorem exec_sub : InType0 6 .subT0 .subT1 .subT2 .subT3 fun i r1 r2 r3 => ∀ s,
    exec i s = s.finishReg r3 (subWord (s.readReg r1) (s.readReg r2)) := inType0_exec_eq

theorem exec_mul : InType0 7 .mulT0 .mulT1 .mulT2 .mulT3 fun i r1 r2 r3 => ∀ s,
    exec i s = s.finishReg r3 (mulWord (s.readReg r1) (s.readReg r2)) := inType0_exec_eq

theorem exec_div : InType0 8 .divT0 .divT1 .divT2 .divT3 fun i r1 r2 r3 => ∀ s,
    exec i s = if s.readReg r2 = 0 then s.raise (.arithmeticFault s.pc.toInt)
      else s.finishReg r3 (tdiv (s.readReg r1) (s.readReg r2)) := inType0_exec_eq

theorem exec_and : InType0 9 .andT0 .andT1 .andT2 .andT3 fun i r1 r2 r3 => ∀ s,
    exec i s = s.finishReg r3 (boolWord (valuesEqual (s.readReg r1) (s.readReg r2))) := inType0_exec_eq

theorem exec_or : InType0 10 .orT0 .orT1 .orT2 .orT3 fun i r1 r2 r3 => ∀ s,
    exec i s = s.finishReg r3 (boolWord (eitherIsOne (s.readReg r1) (s.readReg r2))) := inType0_exec_eq

theorem exec_slt : InType0 16 .sltT0 .sltT1 .sltT2 .sltT3 fun i r1 r2 r3 => ∀ s,
    exec i s = s.finishReg r3 (boolWord (signedLess (s.readReg r1) (s.readReg r2))) := inType0_exec_eq

theorem exec_slti : InTypes013 17 .sltiT0 .sltiT1 .sltiT2 .sltiT3 fun i r1 r2 a => ∀ s,
    exec i s = s.attempt (s.readData a) fun v => s.finishReg r2 (boolWord (signedLess (s.readReg r1) v)) :=
  inTypes013_exec_eq

/-! The word that each test writes (42_alu R115 to R118, R123), on signed values. -/

theorem boolWord_eq_zero_or_one (b : Bool) : boolWord b = 0 ∨ boolWord b = 1 := by
  cases b
  case false => exact .inl rfl
  case true => exact .inr rfl

theorem boolWord_eq_ite {b : Bool} {p : Prop} [Decidable p] (h : b = true ↔ p) : boolWord b = if p then 1 else 0 :=
  if_congr h rfl rfl

theorem boolWord_valuesEqual (a b : Word) : boolWord (valuesEqual a b) = if a.toInt = b.toInt then 1 else 0 :=
  boolWord_eq_ite (beq_iff_eq.trans BitVec.toInt_inj.symm)

theorem toInt_eq_one_iff (a : Word) : a.toInt = 1 ↔ a = 1#32 := BitVec.toInt_inj (y := 1#32)

theorem boolWord_eitherIsOne (a b : Word) :
    boolWord (eitherIsOne a b) = if a.toInt = 1 ∨ b.toInt = 1 then 1 else 0 :=
  boolWord_eq_ite (by simp only [eitherIsOne, Bool.or_eq_true, beq_iff_eq, toInt_eq_one_iff])

theorem boolWord_signedLess (a b : Word) : boolWord (signedLess a b) = if a.toInt < b.toInt then 1 else 0 :=
  boolWord_eq_ite decide_eq_true_iff

section

variable {i : Instr} {s t : State} {d : RegIdx}

/-- An instruction that writes `wrap32` of the exact result. -/
theorem completes_finishReg_wrap32 {n : Int} (h : exec i s = s.finishReg d (wrap32 n)) :
    Completes i s fun _ t => ∃ v : Word, IsWrap32 n v.toInt ∧ WroteReg d v s t :=
  ⟨_, h, _, isWrap32_wrap32 n, wroteReg_finishReg s d _⟩

/-- A comparison of registers leaves 0 or 1 in its destination. -/
theorem zero_or_one_of_finishReg {b : Bool} (h : exec i s = s.finishReg d (boolWord b))
    (hexec : exec i s = .next t) : t.readReg d = 0 ∨ t.readReg d = 1 := by
  obtain rfl := Host.Outcome.next.inj (h.symm.trans hexec)
  rw [State.readReg_setPc, State.readReg_writeReg_same]
  exact boolWord_eq_zero_or_one b

/-- A comparison with the data cell that did not raise leaves 0 or 1 in its destination. -/
theorem zero_or_one_of_attempt {a : Nat} {b : Word → Bool}
    (h : exec i s = s.attempt (s.readData a) fun v => s.finishReg d (boolWord (b v)))
    (hexec : exec i s = .next t) (ht : t.fault = none) : t.readReg d = 0 ∨ t.readReg d = 1 := by
  rcases State.attempt_cases (h.symm.trans hexec) with ⟨v, hread, hwrite⟩ | ⟨f, -, rfl⟩
  · exact zero_or_one_of_finishReg (by rw [h, hread, State.attempt_ok]) hexec
  · exact absurd ht nofun

end

/-! Division (42_alu R121). -/

/-- The exact quotient rounded toward zero: the largest magnitude not above the exact one's, with its sign. -/
theorem tdiv_rounds_toward_zero (x : Int) {y : Int} (hy : y ≠ 0) :
    (x.tdiv y).natAbs * y.natAbs ≤ x.natAbs ∧ x.natAbs < ((x.tdiv y).natAbs + 1) * y.natAbs ∧
      0 ≤ x.tdiv y * (x * y) := by
  refine ⟨?_, ?_, ?_⟩
  · rw [Int.natAbs_tdiv]
    exact Nat.div_mul_le_self _ _
  · rw [Int.natAbs_tdiv]
    exact Nat.lt_mul_of_div_lt (Nat.lt_succ_self _) (Int.natAbs_pos.2 hy)
  · rw [← Int.sign_nonneg_iff, Int.sign_mul, Int.sign_mul, Int.sign_tdiv]
    split
    case isTrue => rw [zero_mul]
    case isFalse => exact mul_self_nonneg _

/-- The wrapped quotient is the machine-word division of Lean's library. -/
theorem tdiv_eq_sdiv (a b : Word) : tdiv a b = a.sdiv b :=
  BitVec.eq_of_toInt_eq (by rw [tdiv_eq_wrap32, BitVec.toInt_sdiv]; exact BitVec.toInt_ofInt _)

/-- Only -2^31 / -1 leaves the range of a word. -/
theorem toInt_tdiv {a b : Word} (h : ¬ (a = 0x80000000 ∧ b = 0xFFFFFFFF)) :
    (tdiv a b).toInt = Int.tdiv a.toInt b.toInt := by
  rw [tdiv_eq_sdiv]
  exact BitVec.toInt_sdiv_of_ne_or_ne a b (not_and_or.1 h)

/-- Settles O28: `tdiv` is `wrap32` of R121's formula; in range it is the exact quotient, which rounds toward zero. -/
theorem divisionRoundsTowardZero : Obligations.DivisionRoundsTowardZero := by
  refine ⟨fun a b _ => isWrap32_wrap32 _, ?_, by decide⟩
  rintro a b hb hrange _ rfl
  rw [toInt_tdiv hrange]
  exact tdiv_rounds_toward_zero a.toInt (BitVec.toInt_ne.2 hb)

/-- Settles O29: each of them writes a `boolWord`. -/
theorem comparisonsWriteZeroOrOne : Obligations.ComparisonsWriteZeroOrOne := by
  intro i s t _ hexec ht
  constructor
  · rintro r1 r2 r3 a (rfl | rfl | rfl)
    · exact zero_or_one_of_finishReg ((exec_and.1 r1 r2 r3 a).2 s) hexec
    · exact zero_or_one_of_finishReg ((exec_or.1 r1 r2 r3 a).2 s) hexec
    · exact zero_or_one_of_finishReg ((exec_slt.1 r1 r2 r3 a).2 s) hexec
  · obtain ⟨hexec0, hexec1, -, hexec3⟩ := exec_slti
    rintro r1 r2 r3 a b (rfl | rfl | rfl)
    · exact zero_or_one_of_attempt ((hexec0 r1 r2 r3 a).2 s) hexec ht
    · exact zero_or_one_of_attempt ((hexec1 r1 r2 b).2 s) hexec ht
    · exact zero_or_one_of_attempt ((hexec3 r1 r2 b).2 s) hexec ht

/-- Settles O37: `MOV` is one register write. -/
theorem movCopiesReg2IntoReg1 : Obligations.MovCopiesReg2IntoReg1 :=
  exec_mov.imp fun hexec s => completes_finishReg (hexec s)

/-- Settles O38: `addWord`, `subWord` and `mulWord` are `wrap32` of the exact result. -/
theorem addSubMulWriteTheWrappedResultToReg3 : Obligations.AddSubMulWriteTheWrappedResultToReg3 :=
  ⟨exec_add.imp fun hexec s => completes_finishReg_wrap32 (hexec s),
    exec_sub.imp fun hexec s => completes_finishReg_wrap32 (hexec s),
    exec_mul.imp fun hexec s => completes_finishReg_wrap32 (hexec s)⟩

/-- Settles O39: a zero divisor raises and any other divides, by `tdiv_eq_wrap32`. -/
theorem divWritesTheTruncatedQuotientOrRaises : Obligations.DivWritesTheTruncatedQuotientOrRaises :=
  exec_div.imp fun hexec s => by
    constructor
    · intro hzero
      exact completes_raise ((hexec s).trans (if_pos hzero))
    · intro hne
      refine completes_finishReg_wrap32 ?_
      rw [hexec s, if_neg hne, tdiv_eq_wrap32]

/-- Settles O40: `AND` writes the word of `valuesEqual`, `OR` that of `eitherIsOne`. -/
theorem andTestsEqualityAndOrTestsForOne : Obligations.AndTestsEqualityAndOrTestsForOne :=
  ⟨exec_and.imp fun hexec s => boolWord_valuesEqual _ _ ▸ completes_finishReg (hexec s),
    exec_or.imp fun hexec s => boolWord_eitherIsOne _ _ ▸ completes_finishReg (hexec s)⟩

/-- Settles O44: `SLT` writes the word of `signedLess`. -/
theorem sltComparesSignedIntoReg3 : Obligations.SltComparesSignedIntoReg3 :=
  exec_slt.imp fun hexec s => boolWord_signedLess _ _ ▸ completes_finishReg (hexec s)

/-- Settles O45: after the read, `SLTI` writes the word of `signedLess`. -/
theorem sltiComparesReg1WithDataIntoReg2 : Obligations.SltiComparesReg1WithDataIntoReg2 :=
  exec_slti.imp fun hexec s => readsData_of (hexec s) fun v _ =>
    ⟨_, rfl, boolWord_signedLess _ v ▸ wroteReg_finishReg s _ _⟩

end Sys2Proof
end

section
/-! 70_reset R176 and the legacy rule of 43_control R141: which launches are accepted. -/

namespace Sys2Proof

open Machine

/-- A machine launched under R176 meets the invariant: its memory is the image's, which ends at MEM_SIZE. -/
theorem machineInv_launchedMachine {l : Launch} (h : l.premises) : MachineInv (launchedMachine l) := by
  obtain ⟨hmin, hmax, hic, hdmo, hlength⟩ := h
  refine ⟨⟨hmin, hmax, hic, hdmo⟩, Memory.wf_ofCells 0 l.image, fun p hp => ?_⟩
  have hbound : p.1 < 0 + l.image.length := (Memory.bounds_ofCells hp).2
  rwa [Nat.zero_add, hlength] at hbound

/-- Settles O10: the legacy parameters decide first, then the premises, and the launched machine meets the
invariant. -/
theorem launchIsAcceptedExactlyUnderItsPremises : Obligations.LaunchIsAcceptedExactlyUnderItsPremises := by
  refine fun l => ⟨fun ⟨hhlt, hjump, hprem⟩ => ?_, fun ⟨hhlt, hjump, hprem⟩ => ?_, fun hmode => if_neg hmode⟩
  · have hlaunch : State.launch l = .next (launchedMachine l) :=
      (launch_eq_next_iff l _).2 ⟨⟨hhlt, hjump⟩, hprem, rfl⟩
    exact ⟨_, hlaunch, machineInv_launchedMachine hprem⟩
  · exact (if_pos ⟨hhlt, hjump⟩).trans (if_neg hprem)

end Sys2Proof
end

section
/-! 43_control: `HLT`, `NOP`, `JMP` and the branches, after what the opcodes that execute in every Type have in common
(30_encoding R68). -/

namespace Sys2Proof

open Machine

section

variable {opcode : BitVec 6} {t0 : RegIdx → RegIdx → RegIdx → BitVec 4 → Instr}
  {t1 : RegIdx → RegIdx → BitVec 16 → Instr} {t2 : BitVec 24 → Instr} {t3 : RegIdx → RegIdx → BitVec 16 → Instr}
  {P Q : Instr → Nat → Prop}

/-- `i` is the form of the opcode that has this Type and these operands: its header says so, and it runs the opcode's
rule on them. -/
def IsForm (opcode : BitVec 6) (type : BitVec 2) (D : Operands) (i : Instr) : Prop :=
  HasHeader i type opcode ∧ ∀ s, exec i s = byOpcode opcode.toNat D s

/-- What a word decodes to is the form that its Operand List names. -/
theorem isForm_decode {w : Word} {type : BitVec 2} {D : Operands} (hlist : operandListOf w = ⟨type, opcode, D⟩) :
    IsForm opcode type D (decode w) :=
  ⟨hasHeader_of_operandList ((operandList_decode w).trans hlist), fun s => by rw [exec_decode, hlist]⟩

/-- A form runs whatever the opcode's rule comes to on its operands. -/
theorem IsForm.runs {type : BitVec 2} {D : Operands} {i : Instr} {run : State → Result}
    (h : IsForm opcode type D i) (hrun : ∀ s, byOpcode opcode.toNat D s = run s) :
    HasHeader i type opcode ∧ ∀ s, exec i s = run s := h.imp_right fun hexec s => (hexec s).trans (hrun s)

/-- The opcode's row of the opcode map names its four forms: each is what the word with its fields decodes to. -/
theorem forms_of_decode (hdecode : ∀ {w}, opcodeOf w = opcode → decode w = byType w t0 t1 t2 t3) :
    (∀ r1 r2 r3 a, IsForm opcode 0 (.type0 r1 r2 r3 a) (t0 r1 r2 r3 a)) ∧
      (∀ r1 r2 a, IsForm opcode 1 (.type13 r1 r2 a) (t1 r1 r2 a)) ∧
      (∀ a, IsForm opcode 2 (.type2 a) (t2 a)) ∧
      (∀ r1 r2 a, IsForm opcode 3 (.type13 r1 r2 a) (t3 r1 r2 a)) := by
  refine ⟨fun r1 r2 r3 a => ?_, fun r1 r2 a => ?_, fun a => ?_, fun r1 r2 a => ?_⟩
  · obtain ⟨htype, hop⟩ := header_encode0 opcode r1 r2 r3 a
    obtain ⟨hreg1, hreg2, hreg3, haddress⟩ := fields_encode0 opcode r1 r2 r3 a
    have hform := isForm_decode (operandListOf_encode0 opcode r1 r2 r3 a)
    rwa [hdecode hop, byType_type0 htype, hreg1, hreg2, hreg3, haddress] at hform
  · obtain ⟨htype, hop⟩ := header_encode1 opcode r1 r2 a
    obtain ⟨hreg1, hreg2, haddress⟩ := fields_encode1 opcode r1 r2 a
    have hform := isForm_decode (operandListOf_encode1 opcode r1 r2 a)
    rwa [hdecode hop, byType_type1 htype, hreg1, hreg2, haddress] at hform
  · obtain ⟨htype, hop⟩ := header_encode2 opcode a
    have hform := isForm_decode (operandListOf_encode2 opcode a)
    rwa [hdecode hop, byType_type2 htype, fields_encode2] at hform
  · obtain ⟨htype, hop⟩ := header_encode3 opcode r1 r2 a
    obtain ⟨hreg1, hreg2, haddress⟩ := fields_encode3 opcode r1 r2 a
    have hform := isForm_decode (operandListOf_encode3 opcode r1 r2 a)
    rwa [hdecode hop, byType_type3 htype, hreg1, hreg2, haddress] at hform

/-- An opcode whose rule runs where the address is supplied, whatever else is. -/
theorem inAllTypes_of_byOpcode {run : Nat → State → Result}
    (hdecode : ∀ {w}, opcodeOf w = opcode → decode w = byType w t0 t1 t2 t3)
    (hrun : ∀ r1 r2 r3 a s, byOpcode opcode.toNat ⟨r1, r2, r3, some a⟩ s = run a s) :
    InAllTypes opcode t0 t1 t2 t3 fun i a => ∀ s, exec i s = run a s := by
  obtain ⟨h0, h1, h2, h3⟩ := forms_of_decode hdecode
  exact ⟨fun r1 r2 r3 a => (h0 r1 r2 r3 a).runs (hrun _ _ _ _),
    fun r1 r2 a => (h1 r1 r2 a).runs (hrun _ _ _ _),
    fun a => (h2 a).runs (hrun _ _ _ _),
    fun r1 r2 a => (h3 r1 r2 a).runs (hrun _ _ _ _)⟩

/-- An opcode whose rule runs where `reg1`, `reg2` and the address are supplied, and raises ARITY where only the address
is. -/
theorem inTypes013_of_byOpcode {run : RegIdx → RegIdx → Nat → State → Result}
    (hdecode : ∀ {w}, opcodeOf w = opcode → decode w = byType w t0 t1 t2 t3)
    (hrun : ∀ r1 r2 r3 a s, byOpcode opcode.toNat ⟨some r1, some r2, r3, some a⟩ s = run r1 r2 a s)
    (harity : ∀ a s, byOpcode opcode.toNat ⟨none, none, none, some a⟩ s = s.raiseArity) :
    InTypes013 opcode t0 t1 t2 t3 fun i r1 r2 a => ∀ s, exec i s = run r1 r2 a s := by
  obtain ⟨h0, h1, h2, h3⟩ := forms_of_decode hdecode
  exact ⟨fun r1 r2 r3 a => (h0 r1 r2 r3 a).runs (hrun _ _ _ _),
    fun r1 r2 a => (h1 r1 r2 a).runs (hrun _ _ _ _),
    fun a => ((h2 a).runs (harity _)).imp_right fun h s => completes_raise (h s),
    fun r1 r2 a => (h3 r1 r2 a).runs (hrun _ _ _ _)⟩

/-- What follows from how the forms run holds of the opcode. -/
theorem InAllTypes.imp (h : InAllTypes opcode t0 t1 t2 t3 P) (himp : ∀ {i a}, P i a → Q i a) :
    InAllTypes opcode t0 t1 t2 t3 Q := by
  obtain ⟨h0, h1, h2, h3⟩ := h
  exact ⟨fun r1 r2 r3 a => (h0 r1 r2 r3 a).imp_right himp, fun r1 r2 a => (h1 r1 r2 a).imp_right himp,
    fun a => (h2 a).imp_right himp, fun r1 r2 a => (h3 r1 r2 a).imp_right himp⟩

end

/-! How the executing forms of each opcode run (43_control R130 to R138). -/

theorem exec_hlt : InAllTypes 18 .hltT0 .hltT1 .hltT2 .hltT3 fun i _ => ∀ s,
    exec i s = s.goTo (BitVec.ofNat 32 s.ic) :=
  inAllTypes_of_byOpcode decode_hlt fun _ _ _ _ _ => rfl

theorem exec_nop : InAllTypes 19 .nopT0 .nopT1 .nopT2 .nopT3 fun i _ => ∀ s, exec i s = s.advance :=
  inAllTypes_of_byOpcode decode_nop fun _ _ _ _ _ => rfl

theorem exec_jmp : InAllTypes 20 .jmpT0 .jmpT1 .jmpT2 .jmpT3 fun i a => ∀ s, exec i s = s.jumpThrough a :=
  inAllTypes_of_byOpcode decode_jmp fun _ _ _ _ _ => rfl

theorem exec_beq : InTypes013 21 .beqT0 .beqT1 .beqT2 .beqT3 fun i r1 r2 a => ∀ s,
    exec i s = s.branchIf (valuesEqual (s.readReg r1) (s.readReg r2)) a :=
  inTypes013_of_byOpcode decode_beq (fun _ _ _ _ _ => rfl) fun _ _ => rfl

theorem exec_bne : InTypes013 22 .bneT0 .bneT1 .bneT2 .bneT3 fun i r1 r2 a => ∀ s,
    exec i s = s.branchIf (!valuesEqual (s.readReg r1) (s.readReg r2)) a :=
  inTypes013_of_byOpcode decode_bne (fun _ _ _ _ _ => rfl) fun _ _ => rfl

theorem exec_bez : InTypes013 23 .bezT0 .bezT1 .bezT2 .bezT3 fun i r1 _ a => ∀ s,
    exec i s = s.branchIf (isZero (s.readReg r1)) a :=
  inTypes013_of_byOpcode decode_bez (fun _ _ _ _ _ => rfl) fun _ _ => rfl

theorem exec_bnz : InTypes013 24 .bnzT0 .bnzT1 .bnzT2 .bnzT3 fun i r1 _ a => ∀ s,
    exec i s = s.branchIf (!isZero (s.readReg r1)) a :=
  inTypes013_of_byOpcode decode_bnz (fun _ _ _ _ _ => rfl) fun _ _ => rfl

theorem exec_bgz : InTypes013 25 .bgzT0 .bgzT1 .bgzT2 .bgzT3 fun i r1 _ a => ∀ s,
    exec i s = s.branchIf (isPositive (s.readReg r1)) a :=
  inTypes013_of_byOpcode decode_bgz (fun _ _ _ _ _ => rfl) fun _ _ => rfl

theorem exec_blz : InTypes013 26 .blzT0 .blzT1 .blzT2 .blzT3 fun i r1 _ a => ∀ s,
    exec i s = s.branchIf (isNegative (s.readReg r1)) a :=
  inTypes013_of_byOpcode decode_blz (fun _ _ _ _ _ => rfl) fun _ _ => rfl

/-! What each branch tests, and the negated test of `BNE` and `BNZ`. -/

theorem valuesEqual_iff (a b : Word) : valuesEqual a b = true ↔ a = b := beq_iff_eq

theorem isZero_iff (a : Word) : isZero a = true ↔ a.toInt = 0 :=
  beq_iff_eq.trans (BitVec.toInt_inj (y := 0#32)).symm

theorem isPositive_iff (a : Word) : isPositive a = true ↔ 0 < a.toInt := decide_eq_true_iff

theorem isNegative_iff (a : Word) : isNegative a = true ↔ a.toInt < 0 := decide_eq_true_iff

theorem negatedTest_iff {b : Bool} {p : Prop} (h : b = true ↔ p) : (!b) = true ↔ ¬ p := by
  rw [Bool.not_eq_true', ← Bool.not_eq_true, h]

section

variable {i : Instr} {s : State} {a : Nat}

/-- A jump reads its target and goes there, whatever its value (R139). -/
theorem readsData_jumpThrough (h : exec i s = s.jumpThrough a) : ReadsData i s a fun v => WentTo v :=
  readsData_of h fun v _ => ⟨_, rfl, wentTo_setPc s v⟩

/-- A branch whose test says `p` is a jump where `p` holds and the sequential advance where it does not (R140); `q` is
the statement's own spelling of `¬ p`. -/
theorem branches_of_branchIf {test : Bool} {p q : Prop} (h : exec i s = s.branchIf test a) (htest : test = true ↔ p)
    (hq : q ↔ ¬ p) : (p → ReadsData i s a fun v => WentTo v) ∧ (q → Completes i s (WentTo (s.pc + 1#32))) := by
  constructor
  · intro hp
    exact readsData_jumpThrough (h.trans (if_pos (htest.2 hp)))
  · intro hnot
    exact completes_advance (h.trans (if_neg (mt htest.1 (hq.1 hnot))))

end

/-- Settles O48: in every Type `JMP` is the jump through memory. -/
theorem jmpGoesToTheValueOfTheDataCell : Obligations.JmpGoesToTheValueOfTheDataCell :=
  exec_jmp.imp fun hexec s => readsData_jumpThrough (hexec s)

/-- Settles O49: `BEQ` tests equality, `BNE` its negation. -/
theorem beqAndBneBranchOnRegisterEquality : Obligations.BeqAndBneBranchOnRegisterEquality :=
  ⟨exec_beq.imp fun hexec s => branches_of_branchIf (hexec s) (valuesEqual_iff _ _) Iff.rfl,
    exec_bne.imp fun hexec s => branches_of_branchIf (hexec s) (negatedTest_iff (valuesEqual_iff _ _)) not_not.symm⟩

/-- Settles O50: `BEZ` tests for 0, `BNZ` for any other value. -/
theorem bezAndBnzBranchOnZero : Obligations.BezAndBnzBranchOnZero :=
  ⟨exec_bez.imp fun hexec s => branches_of_branchIf (hexec s) (isZero_iff _) Iff.rfl,
    exec_bnz.imp fun hexec s => branches_of_branchIf (hexec s) (negatedTest_iff (isZero_iff _)) not_not.symm⟩

/-- Settles O51: `BGZ` and `BLZ` test the signed value against 0, and neither is taken on 0. -/
theorem bgzAndBlzBranchOnSign : Obligations.BgzAndBlzBranchOnSign :=
  ⟨exec_bgz.imp fun hexec s => branches_of_branchIf (hexec s) (isPositive_iff _) not_lt.symm,
    exec_blz.imp fun hexec s => branches_of_branchIf (hexec s) (isNegative_iff _) not_lt.symm⟩

/-! A whole step (40_cycle R93), from what its instruction does after the fetch write. -/

section

variable {i : Instr} {s : State} {w v : Word}

theorem AboutToRun.fault_eq_none (h : AboutToRun s w) : s.fault = none := by
  obtain ⟨-, ⟨hnone, -⟩, -⟩ := h
  exact hnone

/-- The step of a machine about to run an instruction's word does what the instruction does. -/
theorem step_of_completes {Q : State → State → Prop} (hwf : i.WellFormed) (hrun : AboutToRun s (encode i))
    (h : Completes i (s.loadInstrRegister (encode i)) Q) :
    ∃ t, step s = .next t ∧ Q (s.loadInstrRegister (encode i)) t := by
  rwa [step_of_aboutToRun hrun, exec_decode_encode hwf]

/-- A step whose instruction writes `pc` only writes `x[2]` and `pc` and nothing else. -/
theorem step_writes_instrRegister_and_pc (hrun : AboutToRun s w)
    (h : Completes (decode w) (s.loadInstrRegister w) (WentTo v)) :
    ∃ t, step s = .next t ∧ t.readReg 2 = w ∧ SameRegsBut 2 s t ∧ SameCells s t ∧ t.pc = v ∧ t.fault = none ∧
      SameLaunch s t := by
  obtain ⟨t, hexec, hpc, hregs, hcells, hfault, hlaunch⟩ := h
  obtain ⟨hword, hregsBut, -⟩ := loadInstrRegister_frame s w
  exact ⟨t, (step_of_aboutToRun hrun).trans hexec, (hregs 2).trans hword, fun r hr => (hregs r).trans (hregsBut r hr),
    hcells, hpc, hfault.trans hrun.fault_eq_none, hlaunch⟩

/-- A step whose instruction writes `pc` only ends with no fault at the value written. -/
theorem step_goes_to (hwf : i.WellFormed) (hrun : AboutToRun s (encode i))
    (h : Completes i (s.loadInstrRegister (encode i)) (WentTo v)) :
    ∃ t, step s = .next t ∧ t.fault = none ∧ t.pc = v := by
  obtain ⟨t, hstep, hpc, -, -, hfault, -⟩ := step_of_completes hwf hrun h
  exact ⟨t, hstep, hfault.trans hrun.fault_eq_none, hpc⟩

end

/-! `HLT` and `NOP`, in execute and as whole steps. -/

theorem exec_decode_hlt {w : Word} (h : (opcodeOf w).toNat = 18) (s : State) :
    exec (decode w) s = s.goTo (BitVec.ofNat 32 s.ic) :=
  (exec_decode w s).trans (congrArg (byOpcode · (operandsOf w) s) h)

theorem exec_decode_nop {w : Word} (h : (opcodeOf w).toNat = 19) (s : State) : exec (decode w) s = s.advance :=
  (exec_decode w s).trans (congrArg (byOpcode · (operandsOf w) s) h)

/-- The IC of a launch fits `pc`. -/
theorem toInt_ofNat_ic {s : State} (h : s.launchPremises) : (BitVec.ofNat 32 s.ic).toInt = s.ic := by
  obtain ⟨-, hmax, hic, -⟩ := h
  have hfits : s.ic < 2147483647 := Nat.lt_of_lt_of_le hic hmax
  rw [BitVec.toInt_ofNat']
  exact Int.bmod_eq_of_le (by omega) (by omega)

/-- A launched machine with no fault that went to IC is halted there. -/
theorem halted_of_pc_eq_ic {s t : State} (h : s.launchPremises) (hpc : t.pc = BitVec.ofNat 32 s.ic)
    (hfault : t.fault = none) (hlaunch : SameLaunch s t) : t.pc.toInt = s.ic ∧ t.halted := by
  obtain ⟨hic, -, -⟩ := hlaunch
  have hvalue : t.pc.toInt = s.ic := by rw [hpc, toInt_ofNat_ic h]
  exact ⟨hvalue, hfault, by rw [hic, hvalue]⟩

/-- Settles O46: `HLT` goes to IC, which a launch makes fit `pc`. -/
theorem hltGoesToInstructionCountAndHalts : Obligations.HltGoesToInstructionCountAndHalts := by
  refine ⟨exec_hlt.imp fun hexec s => ⟨completes_goTo (hexec s), fun hlaunch hfault => ?_⟩, fun s w hrun hop => ?_⟩
  · exact ⟨_, hexec s, halted_of_pc_eq_ic hlaunch rfl hfault (SameLaunch.refl s)⟩
  · obtain ⟨t, hstep, hword, hregs, hcells, hpc, hfault, hsame⟩ :=
      step_writes_instrRegister_and_pc hrun (completes_goTo (exec_decode_hlt hop _))
    obtain ⟨hvalue, hhalted⟩ := halted_of_pc_eq_ic hrun.1 hpc hfault hsame
    exact ⟨t, hstep, hword, hregs, hcells, hvalue, hhalted, hsame⟩

/-- Settles O47: `NOP` is the sequential advance, and a step before it writes the fetched word. -/
theorem nopOnlyAdvances : Obligations.NopOnlyAdvances :=
  ⟨exec_nop.imp fun hexec s => completes_advance (hexec s), fun _ _ hrun hop =>
    step_writes_instrRegister_and_pc hrun (completes_advance (exec_decode_nop hop _))⟩

end Sys2Proof
end

section
/-! 42_alu section 1 and 43_control R135 to R137: an instruction that reads register 2 reads its own word there, whose
opcode makes it not 0 and whose Type is its sign. -/

namespace Sys2Proof

open Machine

theorem toInt_ne_zero_of_opcode {w : Word} (h : opcodeOf w ≠ 0) : w.toInt ≠ 0 := by
  intro hzero
  obtain rfl : w = 0#32 := BitVec.toInt_inj.1 hzero
  exact h rfl

/-- The Type is the two top bits of the word, so Types 0 and 1 leave the sign bit clear and Types 2 and 3 set it. -/
theorem toInt_nonneg_iff_type (w : Word) : 0 ≤ w.toInt ↔ (typeOf w).toNat < 2 := by
  rw [BitVec.toInt_pos_iff, toNat_typeOf]
  omega

section

variable {i : Instr} {type : BitVec 2} {opcode : BitVec 6} (s : State)

/-- What register 2 holds when an instruction executes is its own word, which only opcode 0 (`RD`) can make 0. -/
theorem ownWord_ne_zero (h : HasHeader i type opcode) (hop : opcode ≠ 0) :
    ((s.loadInstrRegister (encode i)).readReg 2).toInt ≠ 0 := by
  obtain ⟨-, rfl⟩ := h
  rw [(loadInstrRegister_frame s _).1]
  exact toInt_ne_zero_of_opcode hop

theorem ownWord_nonneg_iff (h : HasHeader i type opcode) :
    0 ≤ ((s.loadInstrRegister (encode i)).readReg 2).toInt ↔ type.toNat < 2 := by
  obtain ⟨rfl, -⟩ := h
  rw [(loadInstrRegister_frame s _).1]
  exact toInt_nonneg_iff_type _

/-- The own word is greater than 0 in Types 0 and 1. -/
theorem ownWord_pos (h : HasHeader i type opcode) (hop : opcode ≠ 0) (htype : type.toNat < 2) :
    0 < ((s.loadInstrRegister (encode i)).readReg 2).toInt :=
  lt_of_le_of_ne ((ownWord_nonneg_iff s h).2 htype) (ownWord_ne_zero s h hop).symm

/-- The own word is less than 0 in Types 2 and 3. -/
theorem ownWord_neg (h : HasHeader i type opcode) (htype : 2 ≤ type.toNat) :
    ((s.loadInstrRegister (encode i)).readReg 2).toInt < 0 :=
  not_le.1 (mt (ownWord_nonneg_iff s h).1 htype.not_gt)

end

/-- A jump through a cell that holds `v` ends the step at `v`; the fetch write does not touch the cell. -/
theorem step_goes_to_data {i : Instr} {s : State} {a : Nat} {v : Word} (hwf : i.WellFormed)
    (hrun : AboutToRun s (encode i)) (h : ReadsData i (s.loadInstrRegister (encode i)) a fun v => WentTo v)
    (hdata : HoldsData s a v) : ∃ t, step s = .next t ∧ t.fault = none ∧ t.pc = v := by
  obtain ⟨hread, -, -⟩ := h
  exact step_goes_to hwf hrun (hread v hdata)

/-- `DIV` by register 2 divides by its own word, which is not 0. -/
theorem step_div_ownWord {s : State} {r1 r3 : RegIdx} {a : BitVec 4}
    (hrun : AboutToRun s (encode (.divT0 r1 2 r3 a))) : ∃ t, step s = .next t ∧ t.fault = none := by
  obtain ⟨hheader, hdiv⟩ := divWritesTheTruncatedQuotientOrRaises.1 r1 2 r3 a
  have hdivisor : (s.loadInstrRegister (encode (.divT0 r1 2 r3 a))).readReg 2 ≠ 0 :=
    (BitVec.toInt_ne (y := 0)).1 (ownWord_ne_zero s hheader (by decide))
  obtain ⟨t, hstep, _, -, hwrote⟩ := step_of_completes rfl hrun ((hdiv _).2 hdivisor)
  obtain ⟨-, -, -, -, hfault, -⟩ := hwrote
  exact ⟨t, hstep, hfault.trans hrun.fault_eq_none⟩

section

variable {i : Instr} {type : BitVec 2} {s : State} {a : Nat} {v : Word}

/-- `BEZ` on its own word is not taken. -/
theorem step_bez_ownWord
    (hbez : HasHeader i type 23 ∧ ∀ s, exec i s = s.branchIf (isZero (s.readReg 2)) a) (hwf : i.WellFormed)
    (hrun : AboutToRun s (encode i)) : ∃ t, step s = .next t ∧ t.fault = none ∧ t.pc = s.pc + 1#32 := by
  obtain ⟨hheader, hexec⟩ := hbez
  obtain ⟨-, hfalls⟩ := branches_of_branchIf (hexec _) (isZero_iff _) Iff.rfl
  exact step_goes_to hwf hrun (hfalls (ownWord_ne_zero s hheader (by decide)))

/-- `BNZ` on its own word is taken. -/
theorem step_bnz_ownWord
    (hbnz : HasHeader i type 24 ∧ ∀ s, exec i s = s.branchIf (!isZero (s.readReg 2)) a) (hwf : i.WellFormed)
    (hrun : AboutToRun s (encode i)) (hdata : HoldsData s a v) :
    ∃ t, step s = .next t ∧ t.fault = none ∧ t.pc = v := by
  obtain ⟨hheader, hexec⟩ := hbnz
  obtain ⟨hjumps, -⟩ := branches_of_branchIf (hexec _) (negatedTest_iff (isZero_iff _)) Iff.rfl
  exact step_goes_to_data hwf hrun (hjumps (ownWord_ne_zero s hheader (by decide))) hdata

/-- `BGZ` on its own word is taken in Types 0 and 1. -/
theorem step_bgz_ownWord_of_type_lt_two
    (hbgz : HasHeader i type 25 ∧ ∀ s, exec i s = s.branchIf (isPositive (s.readReg 2)) a) (hwf : i.WellFormed)
    (hrun : AboutToRun s (encode i)) (hdata : HoldsData s a v) (htype : type.toNat < 2) :
    ∃ t, step s = .next t ∧ t.fault = none ∧ t.pc = v := by
  obtain ⟨hheader, hexec⟩ := hbgz
  obtain ⟨hjumps, -⟩ := branches_of_branchIf (hexec _) (isPositive_iff _) Iff.rfl
  exact step_goes_to_data hwf hrun (hjumps (ownWord_pos s hheader (by decide) htype)) hdata

/-- `BGZ` on its own word is not taken in Types 2 and 3. -/
theorem step_bgz_ownWord_of_two_le_type
    (hbgz : HasHeader i type 25 ∧ ∀ s, exec i s = s.branchIf (isPositive (s.readReg 2)) a) (hwf : i.WellFormed)
    (hrun : AboutToRun s (encode i)) (htype : 2 ≤ type.toNat) :
    ∃ t, step s = .next t ∧ t.fault = none ∧ t.pc = s.pc + 1#32 := by
  obtain ⟨hheader, hexec⟩ := hbgz
  obtain ⟨-, hfalls⟩ := branches_of_branchIf (hexec _) (isPositive_iff _) Iff.rfl
  exact step_goes_to hwf hrun (hfalls (ownWord_neg s hheader htype).not_gt)

end

/-- Settles O31: each of them reads its own word in register 2, in every form that the statement names. -/
theorem ownWordCornersOfDivBezBnzAndBgz : Obligations.OwnWordCornersOfDivBezBnzAndBgz := by
  obtain ⟨hbez0, hbez1, -, hbez3⟩ := exec_bez
  obtain ⟨hbnz0, hbnz1, -, hbnz3⟩ := exec_bnz
  obtain ⟨hbgz0, hbgz1, -, hbgz3⟩ := exec_bgz
  refine ⟨fun _ _ _ _ => step_div_ownWord, ?bez, ?takenInType0, ?takenInTypes1And3, fun _ r2 b hrun =>
    step_bgz_ownWord_of_two_le_type (hbgz3 2 r2 b) rfl hrun (by decide)⟩
  case bez =>
    rintro s r2 r3 a b (hrun | hrun | hrun)
    · exact step_bez_ownWord (hbez0 2 r2 r3 a) rfl hrun
    · exact step_bez_ownWord (hbez1 2 r2 b) rfl hrun
    · exact step_bez_ownWord (hbez3 2 r2 b) rfl hrun
  case takenInType0 =>
    rintro s r2 r3 a v (hrun | hrun) hdata
    · exact step_bnz_ownWord (hbnz0 2 r2 r3 a) rfl hrun hdata
    · exact step_bgz_ownWord_of_type_lt_two (hbgz0 2 r2 r3 a) rfl hrun hdata (by decide)
  case takenInTypes1And3 =>
    rintro s r2 b v (hrun | hrun | hrun) hdata
    · exact step_bnz_ownWord (hbnz1 2 r2 b) rfl hrun hdata
    · exact step_bnz_ownWord (hbnz3 2 r2 b) rfl hrun hdata
    · exact step_bgz_ownWord_of_type_lt_two (hbgz1 2 r2 b) rfl hrun hdata (by decide)

end Sys2Proof
end

section
/-! 60_exceptions R156: the state a fatal condition leaves, by the stage that raised it, and that it is terminal. -/

namespace Sys2Proof

open Machine

/-- A running launched machine fetches, decodes and executes (40_cycle R80). -/
theorem step_of_running {s : State} (hlaunch : s.launchPremises) (hrunning : s.running) :
    step s = fetchDecodeExecute s := (if_pos hlaunch).trans (if_pos hrunning)

/-- Where `runCycle()` answers a halted or faulted machine, it answers that same machine (log 5). -/
theorem eq_of_step_of_not_running {s t : State} (hrunning : ¬ s.running) (hstep : step s = .next t) : t = s := by
  by_cases hlaunch : s.launchPremises
  · have hsame : step s = .next s := (if_pos hlaunch).trans (if_neg hrunning)
    exact Host.Outcome.next.inj (hstep.symm.trans hsame)
  · have hrefused : step s = .refused .launchViolated := if_neg hlaunch
    exact absurd (hstep.symm.trans hrefused) nofun

theorem not_running_of_faulted {s : State} (hfaulted : s.faulted) : ¬ s.running := fun ⟨hnone, _⟩ => hfaulted hnone

/-- Neither the core nor the host clears the fault register (60_exceptions R156). -/
theorem hostMove_keeps_fault {m : HostMove} {s t : State} (hfaulted : s.faulted) (hmove : hostMove m s = .next t) :
    t.fault = s.fault := by
  cases m with
  | runCycle => rw [eq_of_step_of_not_running (not_running_of_faulted hfaulted) hmove]
  | setProgramCounter v =>
    have hset : s.setProgramCounter v = t := Host.Outcome.next.inj hmove
    exact hset ▸ rfl

/-- The cell at `pc` holds one word. -/
theorem AboutToRun.word_unique {s : State} {w w' : Word} (h : AboutToRun s w) (h' : AboutToRun s w') : w = w' := by
  obtain ⟨-, -, -, hcell⟩ := h
  obtain ⟨-, -, -, hcell'⟩ := h'
  exact Cell.int.inj (hcell.symm.trans hcell')

/-- A running launched machine that is about to run no word has a negative `pc` or a marker cell at `pc`, and its step
raises before the fetch write (40_cycle R81). -/
theorem step_of_not_aboutToRun {s : State} (hlaunch : s.launchPremises) (hrunning : s.running)
    (hnone : ∀ w, ¬ AboutToRun s w) : ∃ f, step s = .next (s.setFault f) := by
  have hraise : ∀ {f}, s.fetchCell s.pc.toInt = .error f → ∃ f, step s = .next (s.setFault f) := fun {f} hfetch =>
    ⟨f, by rw [step_of_running hlaunch hrunning, fetchDecodeExecute, hfetch, State.attempt_error]⟩
  rcases lt_or_ge s.pc.toInt 0 with hneg | hnonneg
  · exact hraise (State.readCell_outOfBounds .fetchNonInt (.inl hneg))
  · cases hcell : s.cellAt s.pc.toNat with
    | int w => exact absurd ⟨hlaunch, hrunning, hnonneg, hcell⟩ (hnone w)
    | nonInt =>
      obtain ⟨-, -, hic, -⟩ := hlaunch
      obtain ⟨-, hpc⟩ := hrunning
      exact hraise (State.readCell_nonInt .fetchNonInt hnonneg (by omega) (by rwa [toNat_toInt_of_nonneg hnonneg]))

/-- A step that raised did so in execute, where the fetch write and the fault register are all it wrote, or in fetch,
where it wrote the fault register only. -/
theorem raisedOnly_of_step_faulted {s t : State} (hlaunch : s.launchPremises) (hrunning : s.running)
    (hstep : step s = .next t) (hfaulted : t.faulted) :
    (∃ w f, AboutToRun s w ∧ RaisedOnly f (s.loadInstrRegister w) t) ∨
      (∀ w, ¬ AboutToRun s w) ∧ ∃ f, RaisedOnly f s t := by
  by_cases hrun : ∃ w, AboutToRun s w
  · obtain ⟨w, hw⟩ := hrun
    rw [step_of_aboutToRun hw] at hstep
    obtain ⟨-, hraises, -⟩ := everyInstructionMakesAtMostOneWrite
    obtain ⟨f, hraised⟩ := hraises _ (s.loadInstrRegister w) t hw.fault_eq_none hstep hfaulted
    exact .inl ⟨w, f, hw, hraised⟩
  · have hnone : ∀ w, ¬ AboutToRun s w := not_exists.1 hrun
    obtain ⟨f, hraise⟩ := step_of_not_aboutToRun hlaunch hrunning hnone
    obtain rfl : s.setFault f = t := Host.Outcome.next.inj (hraise.symm.trans hstep)
    exact .inr ⟨hnone, f, raisedOnly_setFault s f⟩

/-- Settles O23: the frame of a raise, over the fetch write where fetch had completed, and a faulted machine neither
runs nor is cleared. -/
theorem fatalConditionLeavesAPreciseTerminalState : Obligations.FatalConditionLeavesAPreciseTerminalState := by
  intro s t hlaunch hrunning hstep hfaulted
  have hstopped : ¬ t.running := not_running_of_faulted hfaulted
  have hkept : ∀ m u, hostMove m t = .next u → u.fault = t.fault := fun _ _ => hostMove_keeps_fault hfaulted
  rcases raisedOnly_of_step_faulted hlaunch hrunning hstep hfaulted with ⟨w, f, hw, hraised⟩ | ⟨hnone, f, hraised⟩
  · obtain ⟨-, hpc, hregs, hcells, hsame⟩ := hraised
    obtain ⟨hword, hregsBut, -⟩ := loadInstrRegister_frame s w
    exact ⟨hpc, hcells, fun r hr => (hregs r).trans (hregsBut r hr), hsame,
      fun w' hw' => (hregs 2).trans (hword.trans (hw.word_unique hw')), fun hnone => absurd hw (hnone w), hstopped,
      hkept⟩
  · obtain ⟨-, hpc, hregs, hcells, hsame⟩ := hraised
    exact ⟨hpc, hcells, fun r _ => hregs r, hsame, fun w hw => absurd hw (hnone w), fun _ => hregs 2, hstopped, hkept⟩

end Sys2Proof
end

section
/-! 30_encoding R76 and its two round trips: the encoded word as a sum, what a word encodes back to, and what an encoded
word decodes to. -/

namespace Sys2Proof

open Machine

/-- An append is its high part shifted above its low part. -/
theorem toNat_append_eq_add {n m : Nat} (x : BitVec n) (y : BitVec m) :
    (x ++ y).toNat = x.toNat * 2 ^ m + y.toNat := by
  rw [BitVec.toNat_append, ← Nat.shiftLeft_add_eq_or_of_lt y.isLt, Nat.shiftLeft_eq]

/-- Settles O3: each encoder appends its fields, so the word is the sum of the fields at their places. -/
theorem encodedWordIsTheSumOfItsFields : Obligations.EncodedWordIsTheSumOfItsFields := by
  intro op r1 r2 r3 a b c
  refine ⟨?_, ?_, ?_, ?_⟩
  · simp only [encode0, toNat_append_eq_add, BitVec.toNat_ofNat]
    omega
  · simp only [encode1, toNat_append_eq_add, BitVec.toNat_ofNat]
    omega
  · simp only [encode2, toNat_append_eq_add, BitVec.toNat_ofNat]
    omega
  · simp only [encode3, toNat_append_eq_add, BitVec.toNat_ofNat]
    omega

/-! Decode after encode. -/

/-- A row of the opcode map gives back each of its four forms from the word that the encoder of the form's Type
writes. -/
theorem decode_encode_row {opcode : BitVec 6} {t0 t1 t2 t3}
    (hrow : ∀ {w}, opcodeOf w = opcode → decode w = byType w t0 t1 t2 t3) :
    (∀ r1 r2 r3 a, decode (encode0 opcode r1 r2 r3 a) = t0 r1 r2 r3 a) ∧
      (∀ r1 r2 a, decode (encode1 opcode r1 r2 a) = t1 r1 r2 a) ∧
      (∀ a, decode (encode2 opcode a) = t2 a) ∧
      (∀ r1 r2 a, decode (encode3 opcode r1 r2 a) = t3 r1 r2 a) := by
  refine ⟨fun r1 r2 r3 a => ?_, fun r1 r2 a => ?_, fun a => ?_, fun r1 r2 a => ?_⟩
  · obtain ⟨htype, hop⟩ := header_encode0 opcode r1 r2 r3 a
    obtain ⟨hreg1, hreg2, hreg3, haddress⟩ := fields_encode0 opcode r1 r2 r3 a
    rw [hrow hop, byType_type0 htype, hreg1, hreg2, hreg3, haddress]
  · obtain ⟨htype, hop⟩ := header_encode1 opcode r1 r2 a
    obtain ⟨hreg1, hreg2, haddress⟩ := fields_encode1 opcode r1 r2 a
    rw [hrow hop, byType_type1 htype, hreg1, hreg2, haddress]
  · obtain ⟨htype, hop⟩ := header_encode2 opcode a
    rw [hrow hop, byType_type2 htype, fields_encode2]
  · obtain ⟨htype, hop⟩ := header_encode3 opcode r1 r2 a
    obtain ⟨hreg1, hreg2, haddress⟩ := fields_encode3 opcode r1 r2 a
    rw [hrow hop, byType_type3 htype, hreg1, hreg2, haddress]

theorem decode_undef27 {w : Word} (h : opcodeOf w = 27) : decode w = .undef27 (typeOf w) (address24Of w) := by
  simp only [decode, h]
  rfl

theorem decode_undef28to31 {w : Word} (hlow : 28 ≤ (opcodeOf w).toNat) (hhigh : (opcodeOf w).toNat ≤ 31) :
    decode w = .undef28to31 (typeOf w) (opcodeOf w) (address24Of w) := by
  unfold decode
  split
  case h_29 => exact if_pos (Nat.lt_succ_of_le hhigh)
  all_goals omega

theorem decode_undef32to63 {w : Word} (h : 32 ≤ (opcodeOf w).toNat) :
    decode w = .undef32to63 (typeOf w) (opcodeOf w) (address24Of w) := by
  unfold decode
  split
  case h_29 => exact if_neg (Nat.not_lt.2 h)
  all_goals omega

/-- Settles O2: the word of a defined instruction has its row's opcode, so the row gives the instruction back; an
undefined opcode is kept with all its operand bits, and well-formedness says which of the three rows it stands in. -/
theorem decodeOfEncodeIsTheInstruction : Obligations.DecodeOfEncodeIsTheInstruction := by
  intro i hwf
  cases i with
  | undef27 type operands =>
    obtain ⟨htype, hop⟩ := header_encodeUndef type 27 operands
    rw [encode, decode_undef27 hop, htype, fields_encodeUndef]
  | undef28to31 type opcode operands =>
    obtain ⟨htype, hop⟩ := header_encodeUndef type opcode operands
    simp only [Instr.WellFormed, Instr.wf, Bool.and_eq_true, decide_eq_true_eq] at hwf
    obtain ⟨hlow, hhigh⟩ := hwf
    rw [encode, decode_undef28to31 (by rwa [hop]) (by rwa [hop]), htype, hop, fields_encodeUndef]
  | undef32to63 type opcode operands =>
    obtain ⟨htype, hop⟩ := header_encodeUndef type opcode operands
    have hhigh : 32 ≤ opcode.toNat := of_decide_eq_true hwf
    rw [encode, decode_undef32to63 (by rwa [hop]), htype, hop, fields_encodeUndef]
  | _ =>
    simp only [encode, decode_encode_row decode_rd, decode_encode_row decode_wr, decode_encode_row decode_st,
      decode_encode_row decode_lw, decode_encode_row decode_mov, decode_encode_row decode_add,
      decode_encode_row decode_sub, decode_encode_row decode_mul, decode_encode_row decode_div,
      decode_encode_row decode_and, decode_encode_row decode_or, decode_encode_row decode_movi,
      decode_encode_row decode_addi, decode_encode_row decode_muli, decode_encode_row decode_divi,
      decode_encode_row decode_ldi, decode_encode_row decode_slt, decode_encode_row decode_slti,
      decode_encode_row decode_hlt, decode_encode_row decode_nop, decode_encode_row decode_jmp,
      decode_encode_row decode_beq, decode_encode_row decode_bne, decode_encode_row decode_bez,
      decode_encode_row decode_bnz, decode_encode_row decode_bgz, decode_encode_row decode_blz]

/-! Encode after decode. -/

/-- The word with its spare bits cleared where it has any: `w[7:0]` of a Type 0 word (30_encoding R63). -/
def clearSpareBits (w : Word) : Word := if typeOf w = 0 then w &&& 0xFFFFFF00 else w

theorem clearSpareBits_type0 {w : Word} (h : typeOf w = 0) : clearSpareBits w = w &&& 0xFFFFFF00 := if_pos h

theorem clearSpareBits_of_ne {w : Word} (h : typeOf w ≠ 0) : clearSpareBits w = w := if_neg h

/-- The mask keeps the 24 bits above the spare ones. -/
theorem and_spareMask_eq_append (w : Word) : w &&& 0xFFFFFF00 = w.extractLsb' 8 24 ++ 0#8 := by
  have hmask : ∀ i < 32, (0xFFFFFF00 : Word).getLsbD i = decide (8 ≤ i) := by decide
  ext i hi
  rw [BitVec.getElem_and, ← BitVec.getLsbD_eq_getElem, ← BitVec.getLsbD_eq_getElem, hmask i hi, BitVec.getElem_append]
  split
  case isTrue hlow => simp [hlow]
  case isFalse hlow => simp [Nat.le_of_not_lt hlow]

theorem clearSpareBits_of_spare_eq_zero {w : Word} (h : w.extractLsb' 0 8 = 0#8) : clearSpareBits w = w := by
  by_cases ht : typeOf w = 0
  · rw [clearSpareBits_type0 ht, and_spareMask_eq_append, ← h]
    exact (BitVec.extractLsb'_append_extractLsb'_eq_extractLsb' rfl).trans BitVec.extractLsb'_eq_self
  · exact clearSpareBits_of_ne ht

/-! The fields of a word put together again, one equation per encoder. -/

theorem encode0_fields {w : Word} (h : typeOf w = 0) :
    encode0 (opcodeOf w) (reg1Of w) (reg2Of w) (reg3Of w) (address4Of w) = clearSpareBits w := by
  have htype : w.toNat / 2 ^ 30 = 0 := by rw [← toNat_typeOf, h]; rfl
  obtain ⟨hsum, -⟩ := encodedWordIsTheSumOfItsFields (opcodeOf w) (reg1Of w) (reg2Of w) (reg3Of w) (address4Of w) 0 0
  apply BitVec.eq_of_toNat_eq
  rw [hsum, clearSpareBits_type0 h, and_spareMask_eq_append, toNat_append_eq_add, toNat_extract]
  simp only [opcodeOf, reg1Of, reg2Of, reg3Of, address4Of, toNat_extract, BitVec.toNat_ofNat]
  omega

theorem encode1_fields {w : Word} (h : typeOf w = 1) :
    encode1 (opcodeOf w) (reg1Of w) (reg2Of w) (address16Of w) = w := by
  have htype : w.toNat / 2 ^ 30 = 1 := by rw [← toNat_typeOf, h]; rfl
  obtain ⟨-, hsum, -⟩ := encodedWordIsTheSumOfItsFields (opcodeOf w) (reg1Of w) (reg2Of w) 0 0 (address16Of w) 0
  apply BitVec.eq_of_toNat_eq
  rw [hsum]
  simp only [opcodeOf, reg1Of, reg2Of, address16Of, toNat_extract]
  omega

theorem encode2_fields {w : Word} (h : typeOf w = 2) : encode2 (opcodeOf w) (address24Of w) = w := by
  have htype : w.toNat / 2 ^ 30 = 2 := by rw [← toNat_typeOf, h]; rfl
  obtain ⟨-, -, hsum, -⟩ := encodedWordIsTheSumOfItsFields (opcodeOf w) 0 0 0 0 0 (address24Of w)
  apply BitVec.eq_of_toNat_eq
  rw [hsum]
  simp only [opcodeOf, address24Of, toNat_extract]
  omega

theorem encode3_fields {w : Word} (h : typeOf w = 3) :
    encode3 (opcodeOf w) (reg1Of w) (reg2Of w) (address16Of w) = w := by
  have htype : w.toNat / 2 ^ 30 = 3 := by rw [← toNat_typeOf, h]; rfl
  obtain ⟨-, -, -, hsum⟩ := encodedWordIsTheSumOfItsFields (opcodeOf w) (reg1Of w) (reg2Of w) 0 0 (address16Of w) 0
  apply BitVec.eq_of_toNat_eq
  rw [hsum]
  simp only [opcodeOf, reg1Of, reg2Of, address16Of, toNat_extract]
  omega

theorem encodeUndef_fields (w : Word) : encodeUndef (typeOf w) (opcodeOf w) (address24Of w) = w := by
  apply BitVec.eq_of_toNat_eq
  simp only [encodeUndef, toNat_append_eq_add, toNat_typeOf, opcodeOf, address24Of, toNat_extract]
  omega

/-- One defined opcode `n`: if the constructor given for each Type has the encoder of that Type, with `n`, for its row
of `encode`, the word's own Type and fields encode back to the word, spare bits cleared. -/
theorem encode_byType {w : Word} {n : Nat} (hop : (opcodeOf w).toNat = n) {t0 t1 t2 t3}
    (h0 : ∀ r1 r2 r3 a, encode (t0 r1 r2 r3 a) = encode0 (BitVec.ofNat 6 n) r1 r2 r3 a)
    (h1 : ∀ r1 r2 a, encode (t1 r1 r2 a) = encode1 (BitVec.ofNat 6 n) r1 r2 a)
    (h2 : ∀ a, encode (t2 a) = encode2 (BitVec.ofNat 6 n) a)
    (h3 : ∀ r1 r2 a, encode (t3 r1 r2 a) = encode3 (BitVec.ofNat 6 n) r1 r2 a) :
    encode (byType w t0 t1 t2 t3) = clearSpareBits w := by
  have hopcode : BitVec.ofNat 6 n = opcodeOf w := by rw [← hop, BitVec.ofNat_toNat, BitVec.setWidth_eq]
  rcases type_cases (typeOf w) with ht | ht | ht | ht
  · rw [byType_type0 ht, h0, hopcode, encode0_fields ht]
  · rw [byType_type1 ht, h1, hopcode, encode1_fields ht, clearSpareBits_of_ne (by simp [ht])]
  · rw [byType_type2 ht, h2, hopcode, encode2_fields ht, clearSpareBits_of_ne (by simp [ht])]
  · rw [byType_type3 ht, h3, hopcode, encode3_fields ht, clearSpareBits_of_ne (by simp [ht])]

/-- An undefined opcode's word keeps all its operand bits, the spare ones too (log 13). -/
theorem encode_decode_undefined {w : Word} (h : 27 ≤ (opcodeOf w).toNat) : encode (decode w) = w := by
  have hfields : encodeUndef (typeOf w) (opcodeOf w) (address24Of w) = w := encodeUndef_fields w
  rcases Nat.eq_or_lt_of_le h with h27 | hlow
  · have hop : opcodeOf w = 27 := BitVec.eq_of_toNat_eq h27.symm
    rw [decode_undef27 hop, encode, ← hop, hfields]
  · rcases Nat.lt_or_ge 31 (opcodeOf w).toNat with hhigh | hhigh
    · rw [decode_undef32to63 hhigh, encode, hfields]
    · rw [decode_undef28to31 hlow hhigh, encode, hfields]

/-- A defined opcode's word encodes back to itself but for its spare bits, one row of the opcode map for each
opcode. -/
theorem encode_decode_defined {w : Word} (h : (opcodeOf w).toNat < 27) : encode (decode w) = clearSpareBits w := by
  unfold decode
  split
  case h_28 hop => omega
  case h_29 => grind
  all_goals
    rename_i hop
    exact encode_byType hop (fun _ _ _ _ => rfl) (fun _ _ _ => rfl) (fun _ => rfl) (fun _ _ _ => rfl)

/-- Settles O5: a defined opcode's word loses its spare bits, which only Type 0 has, and an undefined opcode's word
loses nothing. -/
theorem encodeOfDecodeIsTheWordUpToSpareBits : Obligations.EncodeOfDecodeIsTheWordUpToSpareBits := by
  refine fun w => ⟨wellFormed_decode w, fun hspare => ?_, fun ht hop => ?_⟩
  · rcases Nat.lt_or_ge (opcodeOf w).toNat 27 with hop | hop
    · exact (encode_decode_defined hop).trans (hspare.elim clearSpareBits_of_ne clearSpareBits_of_spare_eq_zero)
    · exact encode_decode_undefined hop
  · exact (encode_decode_defined hop).trans (clearSpareBits_type0 ht)

/-- Settles O1: each word is decoded by computation. -/
theorem listedWordsDecodeAsListed : Obligations.ListedWordsDecodeAsListed := by
  unfold Obligations.ListedWordsDecodeAsListed
  decide

end Sys2Proof
end

section
/-! 40_cycle R89, 60_exceptions R156: all that instructions and steps do to the state is a chain of four kinds of write,
so a predicate that these keep is kept by the machine. With it the invariant, the launch parameters (10_state R31) and
the cells up to the data base (20_memory R55). -/

namespace Sys2Proof

open Machine

/-- The predicate is kept by each write the machine makes: of a register, of `pc`, of the fault register, and of a cell
in bounds above the data base, which are the only cells a store reaches (20_memory R46, R55). -/
structure KeptByWrites (P : State → Prop) : Prop where
  writeReg : ∀ {s} d v, P s → P (s.writeReg d v)
  setPc : ∀ {s} v, P s → P (s.setPc v)
  setFault : ∀ {s} f, P s → P (s.setFault f)
  putCell : ∀ {s n} v, s.dmo < n → n < s.memSize → P s → P (s.putCell n v)

/-- Only a state that meets the launch premises is not refused (log 6). -/
theorem launchPremises_of_step {s t : State} (hstep : step s = .next t) : s.launchPremises := by
  by_contra hlaunch
  have hrefused : step s = .refused .launchViolated := if_neg hlaunch
  exact absurd (hstep.symm.trans hrefused) nofun

/-- The result is a next state that meets `P`. -/
def Answers (P : State → Prop) (r : Result) : Prop := ∃ t, r = .next t ∧ P t

theorem Answers.of_next {P : State → Prop} {r : Result} {t : State} (h : Answers P r) (ht : r = .next t) : P t := by
  obtain ⟨u, hu, hP⟩ := h
  exact Host.Outcome.next.inj (hu.symm.trans ht) ▸ hP

section

variable {P : State → Prop} {s t : State} (hP : KeptByWrites P) (hs : P s)

include hP hs

/-! The shared operations. -/

theorem answers_raise (f : FatalCondition) : Answers P (s.raise f) := ⟨_, rfl, hP.setFault f hs⟩

theorem answers_goTo (v : Word) : Answers P (s.goTo v) := ⟨_, rfl, hP.setPc v hs⟩

theorem answers_advance : Answers P s.advance := answers_goTo hP hs _

theorem answers_finishReg (d : RegIdx) (v : Word) : Answers P (s.finishReg d v) :=
  answers_advance hP (hP.writeReg d v hs)

theorem answers_attempt {α : Type} {r : Except FatalCondition α} {k : α → Result}
    (hk : ∀ a, r = .ok a → Answers P (k a)) : Answers P (s.attempt r k) := by
  cases r with
  | ok a => exact hk a rfl
  | error f => exact answers_raise hP hs f

/-- A store without the sentinel has an address operand above 0, so its cell is above the data base. -/
theorem answers_storeOrCopy (src dst : RegIdx) (a : Nat) : Answers P (s.storeOrCopy src dst a) := by
  by_cases ha : a = 0
  · rw [ha, State.storeOrCopy_sentinel]
    exact answers_finishReg hP hs dst _
  · rw [State.storeOrCopy_of_ne s src dst ha]
    refine answers_attempt hP hs fun t hwrite => ?_
    obtain ⟨hbound, rfl⟩ := State.writeData_cases hwrite
    have habove : s.dmo < s.effectiveAddress a := Nat.lt_add_of_pos_left (Nat.pos_of_ne_zero ha)
    exact answers_advance hP (hP.putCell _ habove hbound hs)

theorem answers_jumpThrough (a : Nat) : Answers P (s.jumpThrough a) :=
  answers_attempt hP hs fun v _ => answers_goTo hP hs v

theorem answers_branchIf (taken : Bool) (a : Nat) : Answers P (s.branchIf taken a) := by
  cases taken with
  | false => exact answers_advance hP hs
  | true => exact answers_jumpThrough hP hs a

/-! The operand checks: the continuation on the operands, or ARITY. -/

theorem answers_needReg1Reg2Address {D : Operands} {k : RegIdx → RegIdx → Nat → Result}
    (hk : ∀ r1 r2 a, Answers P (k r1 r2 a)) : Answers P (needReg1Reg2Address D s k) := by
  unfold needReg1Reg2Address
  split
  · exact hk _ _ _
  · exact answers_raise hP hs _

theorem answers_needReg1Reg2Reg3 {D : Operands} {k : RegIdx → RegIdx → RegIdx → Result}
    (hk : ∀ r1 r2 r3, Answers P (k r1 r2 r3)) : Answers P (needReg1Reg2Reg3 D s k) := by
  unfold needReg1Reg2Reg3
  split
  · exact hk _ _ _
  · exact answers_raise hP hs _

theorem answers_needReg1Reg2 {D : Operands} {k : RegIdx → RegIdx → Result} (hk : ∀ r1 r2, Answers P (k r1 r2)) :
    Answers P (needReg1Reg2 D s k) := by
  unfold needReg1Reg2
  split
  · exact hk _ _
  · exact answers_raise hP hs _

theorem answers_needReg2Address {D : Operands} {k : RegIdx → Nat → Result} (hk : ∀ r2 a, Answers P (k r2 a)) :
    Answers P (needReg2Address D s k) := by
  unfold needReg2Address
  split
  · exact hk _ _
  · exact answers_raise hP hs _

theorem answers_needReg1Address {D : Operands} {k : RegIdx → Nat → Result} (hk : ∀ r1 a, Answers P (k r1 a)) :
    Answers P (needReg1Address D s k) := by
  unfold needReg1Address
  split
  · exact hk _ _
  · exact answers_raise hP hs _

theorem answers_needAddress {D : Operands} {k : Nat → Result} (hk : ∀ a, Answers P (k a)) :
    Answers P (needAddress D s k) := by
  unfold needAddress
  split
  · exact hk _
  · exact answers_raise hP hs _

/-! The rules that several opcodes share, and the two divisions. -/

theorem answers_threeReg (f : Word → Word → Word) (D : Operands) : Answers P (threeReg f D s) :=
  answers_needReg1Reg2Reg3 hP hs fun _ _ r3 => answers_finishReg hP hs r3 _

theorem answers_combineData (f : Word → Word → Word) (D : Operands) : Answers P (combineData f D s) :=
  answers_needReg2Address hP hs fun r2 _ => answers_attempt hP hs fun _ _ => answers_finishReg hP hs r2 _

theorem answers_opDiv (D : Operands) : Answers P (opDiv D s) := by
  refine answers_needReg1Reg2Reg3 hP hs fun _ _ r3 => ?_
  split
  · exact answers_raise hP hs _
  · exact answers_finishReg hP hs r3 _

theorem answers_opDivi (D : Operands) : Answers P (opDivi D s) := by
  refine answers_needReg2Address hP hs fun r2 _ => answers_attempt hP hs fun _ _ => ?_
  split
  · exact answers_raise hP hs _
  · exact answers_finishReg hP hs r2 _

theorem answers_byOpcode (n : Nat) (D : Operands) : Answers P (byOpcode n D s) := by
  match n with
  | 0 | 3 =>
    exact answers_needReg1Reg2Address hP hs fun _ _ _ => answers_attempt hP hs fun _ _ => answers_finishReg hP hs _ _
  | 1 | 2 => exact answers_needReg1Reg2Address hP hs fun r1 r2 a => answers_storeOrCopy hP hs r1 r2 a
  | 4 => exact answers_needReg1Reg2 hP hs fun r1 _ => answers_finishReg hP hs r1 _
  | 5 | 6 | 7 => exact answers_threeReg hP hs _ D
  | 8 => exact answers_opDiv hP hs D
  | 9 => exact answers_threeReg hP hs (fun a b => boolWord (valuesEqual a b)) D
  | 10 => exact answers_threeReg hP hs (fun a b => boolWord (eitherIsOne a b)) D
  | 11 | 15 => exact answers_combineData hP hs (fun _ v => v) D
  | 12 | 13 => exact answers_combineData hP hs _ D
  | 14 => exact answers_opDivi hP hs D
  | 16 => exact answers_threeReg hP hs (fun a b => boolWord (signedLess a b)) D
  | 17 =>
    exact answers_needReg1Reg2Address hP hs fun _ r2 _ => answers_attempt hP hs fun _ _ => answers_finishReg hP hs r2 _
  | 18 => exact answers_goTo hP hs _
  | 19 => exact answers_advance hP hs
  | 20 => exact answers_needAddress hP hs fun a => answers_jumpThrough hP hs a
  | 21 | 22 => exact answers_needReg1Reg2Address hP hs fun _ _ a => answers_branchIf hP hs _ a
  | 23 | 24 | 25 | 26 => exact answers_needReg1Address hP hs fun _ a => answers_branchIf hP hs _ a
  | n + 27 =>
    rw [byOpcode_undefined (Nat.le_add_left 27 n)]
    exact answers_advance hP hs

/-- Every instruction answers a next state, and keeps what every write keeps. -/
theorem answers_exec (i : Instr) : Answers P (exec i s) := by
  by_cases hwf : i.WellFormed
  · rw [exec_eq_byOpcode i hwf]
    exact answers_byOpcode hP hs _ _
  · rw [exec_of_not_wellFormed hwf]
    exact answers_advance hP hs

/-- Every step of a launched machine answers a next state, and keeps what every write keeps. -/
theorem answers_step (hlaunch : s.launchPremises) : Answers P (step s) := by
  by_cases hrunning : s.running
  · rw [step_of_running hlaunch hrunning]
    exact answers_attempt hP hs fun w _ => answers_exec hP (hP.writeReg _ w hs) _
  · exact ⟨s, (if_pos hlaunch).trans (if_neg hrunning), hs⟩

/-- What every write keeps is kept by every step that answers a next state. -/
theorem step_keeps (hstep : step s = .next t) : P t :=
  (answers_step hP hs (launchPremises_of_step hstep)).of_next hstep

end

/-! What the writes keep. -/

theorem keptByWrites_true : KeptByWrites fun _ => True := ⟨fun _ _ => id, fun _ => id, fun _ => id, fun _ _ _ => id⟩

/-- The canonical form survives a store, and a store in bounds lists no cell beyond MEM_SIZE. -/
theorem keptByWrites_machineInv : KeptByWrites MachineInv where
  writeReg _ _ := id
  setPc _ := id
  setFault _ := id
  putCell := by
    rintro s n v - hbound ⟨hlaunch, hwf, hcells⟩
    refine ⟨hlaunch, Memory.wf_put n v hwf, fun p hp => ?_⟩
    rcases Memory.mem_put hp with rfl | hold
    · exact hbound
    · exact hcells p hold

theorem keptByWrites_sameLaunch (s : State) : KeptByWrites (SameLaunch s) :=
  ⟨fun _ _ => id, fun _ => id, fun _ => id, fun _ _ _ => id⟩

/-- DMO and every cell up to it are unchanged. -/
def SameCellsUpToDataBase (s t : State) : Prop := t.dmo = s.dmo ∧ ∀ n ≤ s.dmo, t.cellAt n = s.cellAt n

theorem SameCellsUpToDataBase.refl (s : State) : SameCellsUpToDataBase s s := ⟨rfl, fun _ _ => rfl⟩

theorem keptByWrites_sameCellsUpToDataBase (s : State) : KeptByWrites (SameCellsUpToDataBase s) where
  writeReg _ _ := id
  setPc _ := id
  setFault _ := id
  putCell := by
    rintro t n v habove - ⟨hdmo, hcells⟩
    refine ⟨hdmo, fun k hk => ?_⟩
    have hother : k ≠ n := by omega
    rw [State.cellAt_putCell, if_neg hother, hcells k hk]

/-- Settles O18: every write keeps the invariant, a store because it is in bounds. -/
theorem everyStepKeepsTheInvariant : Obligations.EveryStepKeepsTheInvariant := fun _ _ =>
  step_keeps keptByWrites_machineInv

/-- Settles O16: the predicate that every state meets is kept by every write. -/
theorem everyInstructionAndStepAnswersANextState : Obligations.EveryInstructionAndStepAnswersANextState := by
  refine ⟨fun i s => ?_, fun s hlaunch => ?_⟩
  · obtain ⟨t, ht, -⟩ := answers_exec (s := s) keptByWrites_true trivial i
    exact ⟨t, ht⟩
  · obtain ⟨t, ht, -⟩ := answers_step keptByWrites_true trivial hlaunch
    exact ⟨t, ht⟩

/-- Settles O19: no write touches a launch parameter, and the host's one write is of `pc`. -/
theorem launchParametersNeverChange : Obligations.LaunchParametersNeverChange := by
  refine ⟨fun i s t hexec => (answers_exec (keptByWrites_sameLaunch s) (SameLaunch.refl s) i).of_next hexec,
    fun m s t hmove => ?_⟩
  cases m with
  | runCycle => exact step_keeps (keptByWrites_sameLaunch s) (SameLaunch.refl s) hmove
  | setProgramCounter v => exact Host.Outcome.next.inj hmove ▸ SameLaunch.refl s

/-- Settles O22: a store reaches only cells above the data base. -/
theorem noStoreReachesACellUpToTheDataBase : Obligations.NoStoreReachesACellUpToTheDataBase :=
  ⟨fun i s _ hexec =>
      ((answers_exec (keptByWrites_sameCellsUpToDataBase s) (SameCellsUpToDataBase.refl s) i).of_next hexec).2,
    fun s _ hstep => (step_keeps (keptByWrites_sameCellsUpToDataBase s) (SameCellsUpToDataBase.refl s) hstep).2⟩

end Sys2Proof
end

section
/-! 40_cycle R81 and 10_state R29: the fetch faults, the sequential advance, and the machine that is not running. -/

namespace Sys2Proof

open Machine

/-- A fetch that raises is all that happens in the cycle. -/
theorem fetchDecodeExecute_of_fetch_error {s : State} {f : FatalCondition} (h : s.fetchCell s.pc.toInt = .error f) :
    ∃ t, fetchDecodeExecute s = .next t ∧ RaisedOnly f s t :=
  ⟨_, by rw [fetchDecodeExecute, h, State.attempt_error], raisedOnly_setFault s f⟩

/-- Below IC every index is below MEM_SIZE. -/
theorem pc_lt_memSize {s : State} (hlaunch : s.launchPremises) (hrunning : s.running) : s.pc.toInt < s.memSize := by
  obtain ⟨-, -, hic, -⟩ := hlaunch
  obtain ⟨-, hpc⟩ := hrunning
  omega

/-- Settles O13: the two errors of the fetch, each raised before the fetch write. -/
theorem fetchFaultWritesNothingElse : Obligations.FetchFaultWritesNothingElse := by
  refine ⟨fun s hout => ?_, fun s h0 h1 hcell => ?_, fun s hlaunch hrunning => ?_⟩
  · exact fetchDecodeExecute_of_fetch_error (State.readCell_outOfBounds .fetchNonInt hout)
  · rw [← toNat_toInt_of_nonneg h0] at hcell
    exact fetchDecodeExecute_of_fetch_error (State.readCell_nonInt .fetchNonInt h0 h1 hcell)
  · exact ⟨pc_lt_memSize hlaunch hrunning, step_of_running hlaunch hrunning⟩

/-- Settles O14: the halt gate and the launch premises are what `runCycle()` tests first. -/
theorem stepOutsideRunningDoesNothing : Obligations.StepOutsideRunningDoesNothing := fun _ =>
  ⟨fun hlaunch hrunning => (if_pos hlaunch).trans (if_neg hrunning), fun hlaunch => if_neg hlaunch⟩

/-- Settles O17: below IC, which is below MEM_SIZE, `pc` is below the greatest word. -/
theorem sequentialAdvanceDoesNotOverflow : Obligations.SequentialAdvanceDoesNotOverflow := by
  rintro s ⟨-, hmax, hic, -⟩ ⟨-, hpc⟩
  have hmax : s.memSize ≤ 2147483647 := hmax
  have hlow : -2147483648 ≤ s.pc.toInt := BitVec.le_toInt s.pc
  refine ⟨?_, by omega⟩
  have hsum : (s.pc + 1#32).toInt = (s.pc.toInt + 1).bmod (2 ^ 32) := BitVec.toInt_add s.pc 1#32
  rw [hsum]
  exact Int.bmod_eq_of_le (by omega) (by omega)

/-! 60_exceptions R159. -/

/-- A step whose instruction raises records the fault. -/
theorem step_fault_of_raisedOnly {s : State} {w : Word} {f : FatalCondition} (hrun : AboutToRun s w)
    (h : Completes (decode w) (s.loadInstrRegister w) (RaisedOnly f)) : ∃ t, step s = .next t ∧ t.fault = some f := by
  obtain ⟨t, hexec, hfault, -⟩ := h
  exact ⟨t, (step_of_aboutToRun hrun).trans hexec, hfault⟩

/-- In whatever form it comes, `DIVI` reads its cell, and a 0 there raises. -/
theorem decode_divi_reads_then_tests {w : Word} {r2 : RegIdx} {a : Nat} (s : State)
    (hform : (∃ r1 r3 b, decode w = .diviT0 r1 r2 r3 b ∧ a = b.toNat) ∨
      (∃ r1 b, decode w = .diviT1 r1 r2 b ∧ a = b.toNat) ∨ (∃ r1 b, decode w = .diviT3 r1 r2 b ∧ a = b.toNat)) :
    ∃ Q, ReadsData (decode w) s a Q ∧ ∀ t, Q 0 s t → RaisedOnly (.arithmeticFault s.pc.toInt) s t := by
  obtain ⟨hdivi0, hdivi1, -, hdivi3⟩ := diviDividesReg2ByDataOrRaises
  rcases hform with ⟨r1, r3, b, hdecode, rfl⟩ | ⟨r1, b, hdecode, rfl⟩ | ⟨r1, b, hdecode, rfl⟩
  · exact ⟨_, hdecode ▸ (hdivi0 r1 r2 r3 b).2 s, fun _ ⟨hzero, _⟩ => hzero rfl⟩
  · exact ⟨_, hdecode ▸ (hdivi1 r1 r2 b).2 s, fun _ ⟨hzero, _⟩ => hzero rfl⟩
  · exact ⟨_, hdecode ▸ (hdivi3 r1 r2 b).2 s, fun _ ⟨hzero, _⟩ => hzero rfl⟩

/-- Settles O24: the fetch faults, then ARITY, then the three outcomes of `DIVI`'s read and test, each on the state after
the fetch write, in which `pc` and the cells are the old ones. -/
theorem faultPriorityFollowsTheStageOrder : Obligations.FaultPriorityFollowsTheStageOrder := by
  obtain ⟨houtOfBounds, hnonInt, -⟩ := fetchFaultWritesNothingElse
  obtain ⟨harity, -⟩ := arityFaultExactlyWhereAnOperandIsMissing
  intro s hlaunch hrunning
  have hstep : step s = fetchDecodeExecute s := step_of_running hlaunch hrunning
  refine ⟨fun hneg => ?_, fun hnonneg hcell => ?_, fun w hrun hlacks => ?_, fun w r2 a hrun hform => ?_⟩
  · obtain ⟨t, hcycle, hfault, -⟩ := houtOfBounds s (.inl hneg)
    exact ⟨t, hstep.trans hcycle, hfault⟩
  · obtain ⟨t, hcycle, hfault, -⟩ := hnonInt s hnonneg (pc_lt_memSize hlaunch hrunning) hcell
    exact ⟨t, hstep.trans hcycle, hfault⟩
  · exact step_fault_of_raisedOnly hrun ((harity w _).1 hlacks)
  · obtain ⟨Q, ⟨hint, hmarker, hbound⟩, hzero⟩ := decode_divi_reads_then_tests (s.loadInstrRegister w) hform
    refine ⟨fun hout => ?_, fun hholds => ?_, fun hholds => ?_⟩
    · exact step_fault_of_raisedOnly hrun (hbound hout)
    · exact step_fault_of_raisedOnly hrun (hmarker hholds)
    · obtain ⟨t, hexec, hQ⟩ := hint 0 hholds
      exact step_fault_of_raisedOnly hrun ⟨t, hexec, hzero t hQ⟩

/-! 95_test_vectors T2: what a step can change. -/

/-- All that a step can be: nothing, where the machine does not run; the fetched instruction, after the fetch write; or
the fault that the fetch raised. -/
theorem step_cases {s t : State} (hstep : step s = .next t) :
    (∃ w, AboutToRun s w ∧ exec (decode w) (s.loadInstrRegister w) = .next t) ∨
      (∀ w, ¬ AboutToRun s w) ∧ (t = s ∨ ∃ f, t = s.setFault f) := by
  by_cases hrun : ∃ w, AboutToRun s w
  · obtain ⟨w, hw⟩ := hrun
    exact .inl ⟨w, hw, (step_of_aboutToRun hw).symm.trans hstep⟩
  · have hnone : ∀ w, ¬ AboutToRun s w := not_exists.1 hrun
    refine .inr ⟨hnone, ?_⟩
    by_cases hrunning : s.running
    · obtain ⟨f, hraise⟩ := step_of_not_aboutToRun (launchPremises_of_step hstep) hrunning hnone
      exact .inr ⟨f, Host.Outcome.next.inj (hstep.symm.trans hraise)⟩
    · exact .inl (eq_of_step_of_not_running hrunning hstep)

/-- An instruction changes no register but its destination. -/
theorem exec_sameReg_of_ne_destination {i : Instr} {s t : State} {r : RegIdx} (hexec : exec i s = .next t)
    (hr : destinationOf i ≠ some r) : t.readReg r = s.readReg r := by
  obtain ⟨hwrites, -⟩ := everyInstructionMakesAtMostOneWrite
  obtain ⟨hcases, -⟩ := hwrites i s t hexec
  rcases hcases with
    ⟨d, v, hdest, -, hregs, -⟩ | ⟨_, _, -, -, -, -, -, -, hregs, -⟩ | ⟨_, -, hregs, -⟩ | ⟨_, -, -, hregs, -⟩
  · exact hregs r fun hrd => hr (hrd ▸ hdest)
  · exact hregs r
  · exact hregs r
  · exact hregs r

/-- An instruction does not change a register and a cell both. -/
theorem exec_sameRegs_or_sameCells {i : Instr} {s t : State} (hexec : exec i s = .next t) :
    SameRegs s t ∨ SameCells s t := by
  obtain ⟨hwrites, -⟩ := everyInstructionMakesAtMostOneWrite
  obtain ⟨hcases, -⟩ := hwrites i s t hexec
  rcases hcases with ⟨d, v, -, hwrote⟩ | ⟨_, _, -, -, -, -, -, -, hregs, -⟩ | ⟨_, hwent⟩ | ⟨_, hraised⟩
  · exact .inr hwrote.sameCells
  · exact .inl hregs
  · exact .inr hwent.sameCells
  · exact .inr hraised.sameCells

/-- Settles O21: the instruction's own changes, over the fetch write of register 2; a cycle that fetches nothing writes
the fault register at most. -/
theorem stepChangesAtMostOneFurtherRegisterOrCell : Obligations.StepChangesAtMostOneFurtherRegisterOrCell := by
  obtain ⟨-, hmove⟩ := launchParametersNeverChange
  obtain ⟨hwrites, -⟩ := everyInstructionMakesAtMostOneWrite
  intro s t hstep
  have hlaunch : SameLaunch s t := hmove .runCycle s t hstep
  rcases step_cases hstep with ⟨w, hrun, hexec⟩ | ⟨hnone, hcases⟩
  · obtain ⟨-, hfetch, -⟩ := loadInstrRegister_frame s w
    refine ⟨hlaunch, ?_, fun w' hrun' => ?_, fun hnone => absurd hrun (hnone w)⟩
    · exact (exec_sameRegs_or_sameCells hexec).imp_left fun hregs r hr => (hregs r).trans (hfetch r hr)
    · obtain rfl := hrun.word_unique hrun'
      obtain ⟨-, hstores⟩ := hwrites _ _ t hexec
      exact ⟨fun r hr hdest => (exec_sameReg_of_ne_destination hexec hdest).trans (hfetch r hr), hstores⟩
  · have hsame : SameRegs s t ∧ SameCells s t := by
      rcases hcases with rfl | ⟨f, rfl⟩
      · exact ⟨fun _ => rfl, fun _ => rfl⟩
      · exact ⟨fun _ => rfl, fun _ => rfl⟩
    exact ⟨hlaunch, .inr hsame.2, fun w hrun => absurd hrun (hnone w), fun _ => hsame⟩

end Sys2Proof
end

section
/-! The memory write of 20_memory R49, the arithmetic of 42_alu R120, and what the loader and the host hand the core
(70_reset R170 to R178). -/

namespace Sys2Proof.Machine

theorem State.memWrite_outOfBounds {s : State} {i : Int} (v : Word) (hout : i < 0 ∨ (s.memSize : Int) ≤ i) :
    s.memWrite i v = .error (.memoryFault i) := by
  simp only [State.memWrite, State.memCheck_error hout]

theorem State.memWrite_inBounds {s : State} {i : Int} (v : Word) (h0 : 0 ≤ i) (h1 : i < s.memSize) :
    s.memWrite i v = .ok (s.putCell i.toNat v) := by
  simp only [State.memWrite, State.memCheck_ok h0 h1]

end Sys2Proof.Machine

namespace Sys2Proof

open Machine

/-- Settles O26: in bounds the write is `putCell`, whose cell both reads then find. -/
theorem cellWriteIsReadBack : Obligations.CellWriteIsReadBack := by
  refine fun s i v => ⟨State.memWrite_outOfBounds v, fun h0 h1 => ?_⟩
  have hcell : (s.putCell i.toNat v).cellAt i.toNat = .int v := State.cellAt_putCell_same s i.toNat v
  have hothers : SameCellsBut i.toNat s (s.putCell i.toNat v) := fun n hn => by
    rw [State.cellAt_putCell, if_neg hn]
  exact ⟨_, State.memWrite_inBounds v h0 h1, State.readCell_int .dataNonInt h0 h1 hcell,
    State.readCell_int .fetchNonInt h0 h1 hcell, hcell, hothers, fun _ => rfl, rfl, rfl, SameLaunch.refl s⟩

/-- Two integers in the range of a word that differ by a multiple of 2^32 are equal. -/
theorem IsWrap32.eq_of_inRange {n m : Int} (h : IsWrap32 n m) (hlow : -2147483648 ≤ n) (hhigh : n < 2147483648) :
    m = n := by
  obtain ⟨hmlow, hmhigh, hdvd⟩ := h
  omega

/-- Settles O27: the three operations are `wrap32` of the exact result. -/
theorem arithmeticIsExactInRangeAndWraps : Obligations.ArithmeticIsExactInRangeAndWraps :=
  ⟨fun _ _ => ⟨isWrap32_wrap32 _, isWrap32_wrap32 _, isWrap32_wrap32 _⟩, fun _ _ => IsWrap32.eq_of_inRange⟩

/-- Settles O9: at reset nothing is listed in memory, and IC, DMO and MEM_SIZE are 0, 0 and 2. -/
theorem resetStateMeetsTheInvariant : Obligations.ResetStateMeetsTheInvariant :=
  ⟨by decide, State.reset_mem_wf, nofun⟩

/-- Settles O33: the write of `pc` keeps the invariant as every write does, and the status follows from the new `pc`. -/
theorem setProgramCounterWritesOnlyPc : Obligations.SetProgramCounterWritesOnlyPc := fun s i =>
  ⟨s.setPc i, rfl, wentTo_setPc s i, keptByWrites_machineInv.setPc i, fun hfault hlt => ⟨hfault, hlt⟩,
    fun hfault hge => ⟨hfault, hge⟩, id⟩

/-! The documented loader (70_reset R174): its image is the instruction lines, then the part from the boundary marker
on. -/

/-- The boundary marker, the data lines and the end marker; `documentedLaunch_image` ties it to the loader's image. -/
def imageFromBoundary (data : List Cell) : List Cell := .nonInt :: (data ++ [.nonInt])

section

variable {ins data : List Cell} {j : Nat} {c : Cell}

theorem documentedLaunch_image : (documentedLaunch ins data).image = ins ++ imageFromBoundary data :=
  List.append_assoc ..

theorem imageFromBoundary_data (h : data[j]? = some c) : (imageFromBoundary data).getD (j + 1) .nonInt = c := by
  obtain ⟨hj, -⟩ := List.getElem?_eq_some_iff.1 h
  rw [imageFromBoundary, List.getD_cons_succ, List.getD_append _ _ _ _ hj, List.getD_eq_getElem?_getD, h,
    Option.getD_some]

theorem imageFromBoundary_end : (imageFromBoundary data).getD (data.length + 1) .nonInt = .nonInt := by
  rw [imageFromBoundary, List.getD_cons_succ, List.getD_append_right _ _ _ _ le_rfl, Nat.sub_self, List.getD_cons_zero]

/-- The premises of R176: the boundary is below MEM_SIZE, and the image has MEM_SIZE cells. -/
theorem documentedLaunch_premises (h : ins.length + data.length + 2 ≤ 2147483647) :
    (documentedLaunch ins data).premises := by
  have hlength : (documentedLaunch ins data).image.length = ins.length + data.length + 2 := by
    simp only [documentedLaunch_image, imageFromBoundary, List.length_append, List.length_cons, List.length_nil]
    omega
  have hboundary : ins.length < ins.length + data.length + 2 := by omega
  exact ⟨Nat.le_add_left 2 _, h, hboundary, hboundary, hlength⟩

/-- The cells of the launched machine from the boundary marker on. -/
theorem cellAt_documented_from_boundary (m : Nat) :
    (launchedMachine (documentedLaunch ins data)).cellAt (ins.length + m) = (imageFromBoundary data).getD m .nonInt := by
  rw [cellAt_launchedMachine, documentedLaunch_image, List.getD_append_right _ _ _ _ (Nat.le_add_right _ m),
    Nat.add_sub_cancel_left]

theorem cellAt_documented_instruction (h : ins[j]? = some c) :
    (launchedMachine (documentedLaunch ins data)).cellAt j = c := by
  obtain ⟨hj, -⟩ := List.getElem?_eq_some_iff.1 h
  rw [cellAt_launchedMachine, documentedLaunch_image, List.getD_append _ _ _ _ hj, List.getD_eq_getElem?_getD, h,
    Option.getD_some]

end

/-- Settles O11: the launch is accepted, and its cells are the image's, on either side of the boundary. -/
theorem documentedLoaderBuildsTheDescribedImage : Obligations.DocumentedLoaderBuildsTheDescribedImage := by
  intro ins data hsize
  have hlaunch : State.launch (documentedLaunch ins data) = .next (launchedMachine (documentedLaunch ins data)) :=
    (launch_eq_next_iff _ _).2 ⟨⟨rfl, rfl⟩, documentedLaunch_premises hsize, rfl⟩
  refine ⟨_, hlaunch, rfl, rfl, rfl, cellAt_documented_from_boundary 0, ?_, fun j c => cellAt_documented_instruction,
    fun j c hdata => ?_⟩
  · exact (cellAt_documented_from_boundary (data.length + 1)).trans imageFromBoundary_end
  · have haddress : (launchedMachine (documentedLaunch ins data)).effectiveAddress (j + 1) = ins.length + (j + 1) :=
      Nat.add_comm _ _
    rw [haddress, cellAt_documented_from_boundary, imageFromBoundary_data hdata]

end Sys2Proof
end

section
/-! 10_state R24: register 2 through a step. 40_cycle section 7: a jump to its own index. -/

namespace Sys2Proof

open Machine

/-- The Types that supply `reg1` and `reg2` cut them at the same places (30_encoding R62). -/
theorem operandsOf_regs {w : Word} (h : typeOf w ≠ 2) :
    (operandsOf w).reg1 = some (reg1Of w) ∧ (operandsOf w).reg2 = some (reg2Of w) := by
  rcases type_cases (typeOf w) with ht | ht | ht | ht
  · rw [operandsOf_type0 ht]
    exact ⟨rfl, rfl⟩
  · rw [operandsOf_type1 ht]
    exact ⟨rfl, rfl⟩
  · exact absurd ht h
  · rw [operandsOf_type3 ht]
    exact ⟨rfl, rfl⟩

/-! The operand checks where the operands are there. -/

theorem needReg1Reg2_of_some {D : Operands} {r1 r2 : RegIdx} (s : State) (k : RegIdx → RegIdx → Result)
    (h1 : D.reg1 = some r1) (h2 : D.reg2 = some r2) : needReg1Reg2 D s k = k r1 r2 := by
  rw [needReg1Reg2, h1, h2]

theorem needReg2Address_of_some {D : Operands} {r2 : RegIdx} {a : Nat} (s : State) (k : RegIdx → Nat → Result)
    (h2 : D.reg2 = some r2) (ha : D.address = some a) : needReg2Address D s k = k r2 a := by
  rw [needReg2Address, h2, ha]

theorem needAddress_of_some {D : Operands} {a : Nat} (s : State) (k : Nat → Result) (ha : D.address = some a) :
    needAddress D s k = k a := by
  rw [needAddress, ha]

/-! The rules of `MOV`, `MOVI`, `LDI` and `JMP` on a decoded word. -/

section

variable {w : Word} (s : State)

/-- A decoded word of opcode `n` runs that opcode's rule. -/
theorem exec_decode_of_opcode {n : Nat} (hop : (opcodeOf w).toNat = n) :
    exec (decode w) s = byOpcode n (operandsOf w) s := hop ▸ exec_decode w s

theorem exec_decode_mov (hop : (opcodeOf w).toNat = 4) (ht : typeOf w ≠ 2) :
    exec (decode w) s = s.finishReg (reg1Of w) (s.readReg (reg2Of w)) := by
  obtain ⟨hreg1, hreg2⟩ := operandsOf_regs ht
  exact (exec_decode_of_opcode s hop).trans (needReg1Reg2_of_some s _ hreg1 hreg2)

/-- `MOVI` and `LDI` are one rule (41_move R108). -/
theorem exec_decode_load {a : Nat} (hop : (opcodeOf w).toNat = 11 ∨ (opcodeOf w).toNat = 15) (ht : typeOf w ≠ 2)
    (ha : (operandsOf w).address = some a) :
    exec (decode w) s = s.attempt (s.readData a) (s.finishReg (reg2Of w)) := by
  obtain ⟨-, hreg2⟩ := operandsOf_regs ht
  have hload : exec (decode w) s = opMovi (operandsOf w) s :=
    hop.elim (exec_decode_of_opcode s) (exec_decode_of_opcode s)
  exact hload.trans (needReg2Address_of_some s _ hreg2 ha)

theorem exec_decode_jmp {a : Nat} (hop : (opcodeOf w).toNat = 20) (ha : (operandsOf w).address = some a) :
    exec (decode w) s = s.jumpThrough a :=
  (exec_decode_of_opcode s hop).trans (needAddress_of_some s _ ha)

end

/-! Register 2 -/

section

variable {s t : State} {w : Word}

/-- What register 2 held before the fetch is lost (R24). -/
theorem step_writeReg_two (hrun : AboutToRun s w) (v : Word) : step (s.writeReg 2 v) = step s := by
  have hrun' : AboutToRun (s.writeReg 2 v) w := hrun
  have hload : (s.writeReg 2 v).loadInstrRegister w = s.loadInstrRegister w := State.writeReg_writeReg_same s 2 v w
  rw [step_of_aboutToRun hrun, step_of_aboutToRun hrun', hload]

/-- The own word stays in register 2 unless the instruction wrote there. -/
theorem readReg_two_of_step (hrun : AboutToRun s w) (hstep : step s = .next t)
    (hkept : destinationOf (decode w) ≠ some 2 ∨ t.faulted) : t.readReg 2 = w := by
  obtain ⟨hword, -⟩ := loadInstrRegister_frame s w
  obtain ⟨-, hraises, -⟩ := everyInstructionMakesAtMostOneWrite
  rw [step_of_aboutToRun hrun] at hstep
  rcases hkept with hdest | hfaulted
  · exact (exec_sameReg_of_ne_destination hstep hdest).trans hword
  · obtain ⟨f, -, -, hregs, -⟩ := hraises _ (s.loadInstrRegister w) t hrun.fault_eq_none hstep hfaulted
    exact (hregs 2).trans hword

/-- A step whose instruction ends in a register write leaves the value in the register. -/
theorem step_of_finishReg {d : RegIdx} {v : Word} (hrun : AboutToRun s w)
    (hexec : exec (decode w) (s.loadInstrRegister w) = (s.loadInstrRegister w).finishReg d v) :
    ∃ t, step s = .next t ∧ t.readReg d = v := by
  obtain ⟨t, ht, hwrote, -⟩ := completes_finishReg hexec
  exact ⟨t, (step_of_aboutToRun hrun).trans ht, hwrote⟩

end

/-- Settles O30: the fetch write comes before all that the instruction reads or writes. -/
theorem registerTwoIsTheInstructionRegister : Obligations.RegisterTwoIsTheInstructionRegister := by
  refine ⟨fun s w v hrun => step_writeReg_two hrun v, fun s w hrun => ?own, fun s w t => readReg_two_of_step,
    fun s w hrun hop ht hreg2 => ?mov, fun s w a v hrun hop ht hreg2 ha hdata => ?load, fun s w hrun hop => ?advance⟩
  case own =>
    obtain ⟨hword, hregs, hcells, hpc, hfault, hlaunch⟩ := loadInstrRegister_frame s w
    exact ⟨_, hword, hregs, hcells, hpc, hfault, hlaunch, step_of_aboutToRun hrun⟩
  case mov =>
    obtain ⟨hword, -⟩ := loadInstrRegister_frame s w
    refine step_of_finishReg hrun ?_
    rw [exec_decode_mov _ hop ht, hreg2, hword]
  case load =>
    rw [operandList_decode] at ha
    obtain ⟨hbound, hcell⟩ := hdata
    have hread : (s.loadInstrRegister w).readData a = .ok v := State.readData_int hbound hcell
    obtain ⟨t, hstep, hvalue⟩ : ∃ t, step s = .next t ∧ t.readReg 2 = v :=
      step_of_finishReg hrun (by rw [exec_decode_load _ hop ht ha, hread, State.attempt_ok, hreg2])
    exact ⟨t, hstep, hvalue, fun _ x hrun' => step_writeReg_two hrun' x⟩
  case advance =>
    obtain ⟨-, hnop⟩ := nopOnlyAdvances
    obtain ⟨-, -, -, hundefined⟩ := undefinedOpcodesOnlyAdvance
    obtain ⟨t, hstep, hword, hregs, hcells, hpc, hfault, -⟩ := hop.elim (hnop s w hrun) (hundefined s w hrun)
    exact ⟨t, hstep, hword, hregs, hcells, hpc, hfault⟩

/-! A jump to its own index -/

/-- One step of such a jump writes register 2 only: `pc` goes back to where it was. -/
theorem step_jump_to_itself {s : State} {w : Word} {a : Nat} (hrun : AboutToRun s w) (hop : (opcodeOf w).toNat = 20)
    (ha : (operandsOf w).address = some a) (hdata : HoldsData s a s.pc) :
    step s = .next (s.loadInstrRegister w) := by
  obtain ⟨hbound, hcell⟩ := hdata
  have hread : (s.loadInstrRegister w).readData a = .ok s.pc := State.readData_int hbound hcell
  rw [step_of_aboutToRun hrun, exec_decode_jmp _ hop ha, State.jumpThrough, hread, State.attempt_ok]
  rfl

/-- A run of one step more is the run from the state after the step. -/
theorem run_succ_of_step {s t : State} (hstep : step s = .next t) (k : Nat) : core.run (k + 1) s = core.run k t := by
  have hcore : core.step s = .next t := hstep
  simp only [Host.Core.run, hcore]

/-- A state that a step leaves as it is stays so for any number of steps. -/
theorem run_of_step_eq {s : State} (hstep : step s = .next s) (k : Nat) : core.run k s = .next s := by
  induction k with
  | zero => rfl
  | succ k ih => rw [run_succ_of_step hstep, ih]

/-- Settles O32: the first step writes the word to register 2, and the state after it is a fixed point of the step. -/
theorem jumpToItselfRunsForever : Obligations.JumpToItselfRunsForever := by
  intro s w a k hrun hop ha hdata
  rw [operandList_decode] at ha
  cases k with
  | zero => exact ⟨s, rfl, hrun, rfl, fun _ => rfl, fun _ _ => rfl, SameLaunch.refl s⟩
  | succ k =>
    have hfirst : step s = .next (s.loadInstrRegister w) := step_jump_to_itself hrun hop ha hdata
    have hagain : step (s.loadInstrRegister w) = .next (s.loadInstrRegister w) :=
      (step_writeReg_two hrun w).trans hfirst
    obtain ⟨-, hregs, hcells, hpc, -, hlaunch⟩ := loadInstrRegister_frame s w
    exact ⟨_, (run_succ_of_step hfirst k).trans (run_of_step_eq hagain k), hrun, hpc, hcells, hregs, hlaunch⟩

end Sys2Proof
end
